-- ==== Sys2Proof/Word.lean ====
section
/-!
DEFINITION. The word types of the higan CDC core (00_scope.md R6, R8). All values are unsigned; one-bit values are `Bool`.
-/

namespace Sys2Proof

/-- One byte: the width of every port, of a queue slot and of a header byte (R6). -/
abbrev Byte := BitVec 8

/-- A port number, and the width of the Address Pointer (R6, R21). -/
abbrev Port := BitVec 4

/-- The transfer length, 12 bits (R6). -/
abbrev Length := BitVec 12

/-- A 16-bit transfer address or block pointer (R6). -/
abbrev Addr16 := BitVec 16

/-- A destination selector (R6). -/
abbrev Dest := BitVec 2

/-- One transaction word `T[15:0]` (R80). -/
abbrev TWord := BitVec 16

/-- One decode word `D[19:0] = {addr, T}` (R85). -/
abbrev DWord := BitVec 20

end Sys2Proof
end

