-- ==== Sys2Proof/Config.lean ====
section
/-!
DEFINITION. The implementation parameters of 00_scope.md R7. "The model takes it as an argument": a `Params` stands in State, no
step changes it, and the spec's defaults are `Params.default` (log 4). The spec leaves no result undefined, so there is no free value.
-/

namespace Sys2Proof

/-- `STS_EVICT` (R7): when a host status write discards the oldest unread byte. -/
inductive StsEvict where
  /-- `ONE`: the queue holds exactly one unread byte. -/
  | one
  /-- `FULL`: the queue holds `STS_DEPTH` unread bytes. -/
  | full
  deriving DecidableEq, Repr

/-- The named parameters of R7. A depth is a power of two, so it is given by its base-2 logarithm, which is the width of the queue's
indices ("The queue indices are `log2(CMD_DEPTH)` and `log2(STS_DEPTH)` bits wide"). -/
structure Params where
  /-- log2 of `CMD_DEPTH`. -/
  cmdIndexBits : Nat
  /-- log2 of `STS_DEPTH`. -/
  stsIndexBits : Nat
  /-- `STS_EVICT`. -/
  stsEvict : StsEvict
  /-- `CNT_WIDTH`. -/
  cntWidth : Nat
  /-- `CPU_READ_DESTS`, as a list of its members. -/
  cpuReadDests : List Dest
  deriving DecidableEq, Repr

/-- `CMD_DEPTH` (R7). -/
def Params.cmdDepth (p : Params) : Nat := 2 ^ p.cmdIndexBits

/-- `STS_DEPTH` (R7). -/
def Params.stsDepth (p : Params) : Nat := 2 ^ p.stsIndexBits

/-- The default values of R7. -/
def Params.default : Params where
  cmdIndexBits := 3
  stsIndexBits := 3
  stsEvict := .one
  cntWidth := 32
  cpuReadDests := [2#2, 3#2]

/-- The legal values of R7: `CMD_DEPTH` at least 1 (every power of two is), `STS_DEPTH` at least 2, `CNT_WIDTH` at least 1,
`CPU_READ_DESTS` with two members. -/
abbrev Params.Legal (p : Params) : Prop :=
  1 ≤ p.stsIndexBits ∧ 1 ≤ p.cntWidth ∧ p.cpuReadDests.length = 2 ∧ p.cpuReadDests.Nodup

end Sys2Proof
end

