-- ==== Sys2Proof/Syntax.lean ====
section
/-!
DEFINITION. The operations of the core: one constructor per row of spec/opcode_table.json (30_encoding.md R90), with the operands of
R87. A data access carries no port number on the bus; its port is the one `addr` selects (R60), so a decoded access names its port.
-/

namespace Sys2Proof

/-- The 59 operations, in the table's order. -/
inductive Instr where
  /-- RD.COMIN (R101): read port 0x0: dequeue a command byte, or 0xFF. -/
  | rdComin
  /-- RD.IFSTAT (R102): read port 0x1: interface status. -/
  | rdIfstat
  /-- RD.DBCL (R103): read port 0x2: transfer length low. -/
  | rdDbcl
  /-- RD.DBCH (R104): read port 0x3: transfer length high nibble. -/
  | rdDbch
  /-- RD.HEAD0 (R105): read port 0x4: minute or file. -/
  | rdHead0
  /-- RD.HEAD1 (R106): read port 0x5: second or channel. -/
  | rdHead1
  /-- RD.HEAD2 (R107): read port 0x6: block or submode. -/
  | rdHead2
  /-- RD.HEAD3 (R108): read port 0x7: mode or coding. -/
  | rdHead3
  /-- RD.PTL (R109): read port 0x8: block pointer low. -/
  | rdPtl
  /-- RD.PTH (R110): read port 0x9: block pointer high. -/
  | rdPth
  /-- RD.WAL (R111): read port 0xA: write-target address low. -/
  | rdWal
  /-- RD.WAH (R112): read port 0xB: write-target address high. -/
  | rdWah
  /-- RD.STAT0 (R113): read port 0xC: status 0. -/
  | rdStat0
  /-- RD.STAT1 (R114): read port 0xD: status 1. -/
  | rdStat1
  /-- RD.STAT2 (R115): read port 0xE: status 2. -/
  | rdStat2
  /-- RD.STAT3 (R116): read port 0xF: status 3, clears the decoder pending flag. -/
  | rdStat3
  /-- WR.SBOUT (R121): write port 0x0: append a status byte. -/
  | wrSbout (d : Byte)
  /-- WR.IFCTRL (R122): write port 0x1: interface control. -/
  | wrIfctrl (d : Byte)
  /-- WR.DBCL (R123): write port 0x2: transfer length low. -/
  | wrDbcl (d : Byte)
  /-- WR.DBCH (R124): write port 0x3: transfer length high nibble. -/
  | wrDbch (d : Byte)
  /-- WR.DACL (R125): write port 0x4: transfer source address low. -/
  | wrDacl (d : Byte)
  /-- WR.DACH (R126): write port 0x5: transfer source address high. -/
  | wrDach (d : Byte)
  /-- WR.DTTRG (R127): write port 0x6: transfer trigger; `d` is ignored. -/
  | wrDttrg (d : Byte)
  /-- WR.DTACK (R128): write port 0x7: transfer interrupt acknowledge; `d` is ignored. -/
  | wrDtack (d : Byte)
  /-- WR.PTL (R129): write port 0x8: block pointer low. -/
  | wrPtl (d : Byte)
  /-- WR.PTH (R130): write port 0x9: block pointer high. -/
  | wrPth (d : Byte)
  /-- WR.CTRL0 (R131): write port 0xA: control 0. -/
  | wrCtrl0 (d : Byte)
  /-- WR.CTRL1 (R132): write port 0xB: control 1. -/
  | wrCtrl1 (d : Byte)
  /-- WR.WAL (R133): write port 0xC: write-target address low. -/
  | wrWal (d : Byte)
  /-- WR.WAH (R134): write port 0xD: write-target address high. -/
  | wrWah (d : Byte)
  /-- WR.CTRL2 (R135): write port 0xE: control 2. -/
  | wrCtrl2 (d : Byte)
  /-- WR.RESET (R136): write port 0xF: software reset; `d` is ignored. -/
  | wrReset (d : Byte)
  /-- AWR (R150): load the Address Pointer with `a`. -/
  | awr (a : Port)
  /-- TICK (R155): advance the free-running counter. -/
  | tick
  /-- POWER (R157): power call with argument `r`, which is ignored (R158). -/
  | power (r : Bool)
  /-- PEER_CMD_PUSH (R171): the peer pushes the command byte `b`. -/
  | peerCmdPush (b : Byte)
  /-- PEER_STS_POP (R172): the peer takes the oldest status byte. -/
  | peerStsPop
  /-- PEER_SET_PEND.DEC (R173): the peer sets the decoder pending flag. -/
  | peerSetPendDec
  /-- PEER_SET_PEND.XFER (R173): the peer sets the transfer pending flag. -/
  | peerSetPendXfer
  /-- PEER_SET_PEND.CMD (R173): the peer sets the command pending flag. -/
  | peerSetPendCmd
  /-- PEER_HDR0 (R174): the peer writes `hdr.minute`. -/
  | peerHdr0 (b : Byte)
  /-- PEER_HDR1 (R174): the peer writes `hdr.second`. -/
  | peerHdr1 (b : Byte)
  /-- PEER_HDR2 (R174): the peer writes `hdr.block`. -/
  | peerHdr2 (b : Byte)
  /-- PEER_HDR3 (R174): the peer writes `hdr.mode`. -/
  | peerHdr3 (b : Byte)
  /-- PEER_SHDR0 (R175): the peer writes `shdr.file`. -/
  | peerShdr0 (b : Byte)
  /-- PEER_SHDR1 (R175): the peer writes `shdr.channel`. -/
  | peerShdr1 (b : Byte)
  /-- PEER_SHDR2 (R175): the peer writes `shdr.submode`. -/
  | peerShdr2 (b : Byte)
  /-- PEER_SHDR3 (R175): the peer writes `shdr.coding`. -/
  | peerShdr3 (b : Byte)
  /-- PEER_STS_FLAGS (R176): the peer writes `sts.active` and `sts.busy`. -/
  | peerStsFlags (act : Bool) (busy : Bool)
  /-- PEER_XFER_FLAGS (R177): the peer writes `xfer.active`, `xfer.busy`, `xfer.ready` and `xfer.done`. -/
  | peerXferFlags (act : Bool) (busy : Bool) (ready : Bool) (done : Bool)
  /-- PEER_DEST (R178): the peer writes the destination selector. -/
  | peerDest (n : Dest)
  /-- PEER_LEN_LO (R179): the peer writes `xfer.length[7:0]`. -/
  | peerLenLo (b : Byte)
  /-- PEER_LEN_HI (R179): the peer writes `xfer.length[11:8]`; `b[7:4]` must be 0. -/
  | peerLenHi (b : Byte)
  /-- PEER_PTR_LO (R179): the peer writes `xfer.pointer[7:0]`. -/
  | peerPtrLo (b : Byte)
  /-- PEER_PTR_HI (R179): the peer writes `xfer.pointer[15:8]`. -/
  | peerPtrHi (b : Byte)
  /-- PEER_TGT_LO (R179): the peer writes `xfer.target[7:0]`. -/
  | peerTgtLo (b : Byte)
  /-- PEER_TGT_HI (R179): the peer writes `xfer.target[15:8]`. -/
  | peerTgtHi (b : Byte)
  /-- PEER_SRC_LO (R179): the peer writes `xfer.source[7:0]`. -/
  | peerSrcLo (b : Byte)
  /-- PEER_SRC_HI (R179): the peer writes `xfer.source[15:8]`. -/
  | peerSrcHi (b : Byte)
  deriving DecidableEq, Repr

end Sys2Proof
end

