-- ==== Sys2Proof/WellFormed.lean ====
section
/-!
DEFINITION. Well-formed operations. Every operand but one has exactly the width the encoding gives it, so its type is the whole
check; PEER_LEN_HI alone carries a byte whose upper nibble "must be 0" (43_peer_interface.md R179).
-/

namespace Sys2Proof

/-- The operand checks of 30_encoding.md R84 that the operands' types do not already make. -/
def Instr.wellFormed : Instr → Bool
  | .rdComin => true
  | .rdIfstat => true
  | .rdDbcl => true
  | .rdDbch => true
  | .rdHead0 => true
  | .rdHead1 => true
  | .rdHead2 => true
  | .rdHead3 => true
  | .rdPtl => true
  | .rdPth => true
  | .rdWal => true
  | .rdWah => true
  | .rdStat0 => true
  | .rdStat1 => true
  | .rdStat2 => true
  | .rdStat3 => true
  | .wrSbout _ => true
  | .wrIfctrl _ => true
  | .wrDbcl _ => true
  | .wrDbch _ => true
  | .wrDacl _ => true
  | .wrDach _ => true
  | .wrDttrg _ => true
  | .wrDtack _ => true
  | .wrPtl _ => true
  | .wrPth _ => true
  | .wrCtrl0 _ => true
  | .wrCtrl1 _ => true
  | .wrWal _ => true
  | .wrWah _ => true
  | .wrCtrl2 _ => true
  | .wrReset _ => true
  | .awr _ => true
  | .tick => true
  | .power _ => true
  | .peerCmdPush _ => true
  | .peerStsPop => true
  | .peerSetPendDec => true
  | .peerSetPendXfer => true
  | .peerSetPendCmd => true
  | .peerHdr0 _ => true
  | .peerHdr1 _ => true
  | .peerHdr2 _ => true
  | .peerHdr3 _ => true
  | .peerShdr0 _ => true
  | .peerShdr1 _ => true
  | .peerShdr2 _ => true
  | .peerShdr3 _ => true
  | .peerStsFlags _ _ => true
  | .peerXferFlags _ _ _ _ => true
  | .peerDest _ => true
  | .peerLenLo _ => true
  | .peerLenHi b => b.extractLsb' 4 4 = 0#4
  | .peerPtrLo _ => true
  | .peerPtrHi _ => true
  | .peerTgtLo _ => true
  | .peerTgtHi _ => true
  | .peerSrcLo _ => true
  | .peerSrcHi _ => true

/-- The operation's operands pass the checks. -/
abbrev Instr.WellFormed (i : Instr) : Prop := i.wellFormed = true

end Sys2Proof
end

