-- ==== Sys2Proof/Decode.lean ====
section
/-!
DEFINITION. The decoder and the encoder of the transaction encoding (30_encoding.md R80 to R90), and the match and mask of every row
of spec/opcode_table.json. The decoder is total on the 20-bit decode words and rejects by name (R86).
-/

namespace Sys2Proof

/-! ## Rejections -/

/-- Why a word is invalid (R86: "a non-zero reserved bit, an unassigned sysop, or PEER_SET_PEND with `p[1:0] = 3`"). -/
inductive Reject where
  /-- A bit that R81 to R84 reserve is not 0. -/
  | reservedBits
  /-- A SYS word whose sysop R84 does not assign. -/
  | unassignedSysop (op : BitVec 6)
  /-- PEER_SET_PEND with source 3. -/
  | unassignedPendSource
  deriving DecidableEq, Repr

/-- What the decoder answers. -/
inductive Decoded where
  /-- The word is the operation `i`. -/
  | instr (i : Instr)
  /-- The word is refused (R86). -/
  | reject (r : Reject)
  deriving DecidableEq, Repr

/-- The operation, where there is one. -/
def Decoded.toOption : Decoded → Option Instr
  | .instr i => some i
  | .reject _ => none

/-- `i` where the bits that must be 0 are 0, else the refusal of R86. -/
def Decoded.guard (zeros : Bool) (i : Instr) : Decoded :=
  if zeros then .instr i else .reject .reservedBits

/-! ## The fields of a decode word -/

/-- The decode word cut into the pointer nibble `D[19:16]`, the kind `T[15:14]`, `T[13:8]` and `T[7:0]` (R80, R84, R85). -/
structure Fields where
  /-- `D[19:16]`, the pointer when the operation arrives. -/
  port : Port
  /-- `T[15:14]`. -/
  kind : BitVec 2
  /-- `T[13:8]`, the sysop of a SYS word. -/
  sysop : BitVec 6
  /-- `T[7:0]`, the payload. -/
  payload : Byte
  deriving DecidableEq, Repr

/-- The fields of a decode word. -/
def DWord.fields (d : DWord) : Fields where
  port := d.extractLsb' 16 4
  kind := d.extractLsb' 14 2
  sysop := d.extractLsb' 8 6
  payload := d.extractLsb' 0 8

/-- The decode word with these fields. -/
def Fields.toDWord (f : Fields) : DWord := f.port ++ f.kind ++ f.sysop ++ f.payload

/-- `D = {addr, T}` (R85). -/
def decodeWord (addr : Port) (t : TWord) : DWord := addr ++ t

/-! ## The decoder -/

/-- The DRD row of a port (R90). -/
def readInstr (p : Port) : Instr :=
  match p with
  | 0x0#4 => .rdComin
  | 0x1#4 => .rdIfstat
  | 0x2#4 => .rdDbcl
  | 0x3#4 => .rdDbch
  | 0x4#4 => .rdHead0
  | 0x5#4 => .rdHead1
  | 0x6#4 => .rdHead2
  | 0x7#4 => .rdHead3
  | 0x8#4 => .rdPtl
  | 0x9#4 => .rdPth
  | 0xA#4 => .rdWal
  | 0xB#4 => .rdWah
  | 0xC#4 => .rdStat0
  | 0xD#4 => .rdStat1
  | 0xE#4 => .rdStat2
  | _ => .rdStat3 -- 0xF, the one port left

/-- The DWR row of a port (R90). -/
def writeInstr (p : Port) (d : Byte) : Instr :=
  match p with
  | 0x0#4 => .wrSbout d
  | 0x1#4 => .wrIfctrl d
  | 0x2#4 => .wrDbcl d
  | 0x3#4 => .wrDbch d
  | 0x4#4 => .wrDacl d
  | 0x5#4 => .wrDach d
  | 0x6#4 => .wrDttrg d
  | 0x7#4 => .wrDtack d
  | 0x8#4 => .wrPtl d
  | 0x9#4 => .wrPth d
  | 0xA#4 => .wrCtrl0 d
  | 0xB#4 => .wrCtrl1 d
  | 0xC#4 => .wrWal d
  | 0xD#4 => .wrWah d
  | 0xE#4 => .wrCtrl2 d
  | _ => .wrReset d -- 0xF, the one port left

/-- PEER_SET_PEND: `p[1:0]` is the source (0 decoder, 1 transfer, 2 command; 3 unassigned) and `p[7:2]` must be 0 (R84). -/
def decodePend (p : Byte) : Decoded :=
  if p.extractLsb' 2 6 = 0#6 then
    match p.extractLsb' 0 2 with
    | 0#2 => .instr .peerSetPendDec
    | 1#2 => .instr .peerSetPendXfer
    | 2#2 => .instr .peerSetPendCmd
    | 3#2 => .reject .unassignedPendSource
  else .reject .reservedBits

/-- The SYS rows (R84). -/
def decodeSys (op : BitVec 6) (p : Byte) : Decoded :=
  match op with
  | 0x00#6 => .guard (p = 0#8) .tick
  | 0x01#6 => .guard (p.extractLsb' 1 7 = 0#7) (.power (p[0]))
  | 0x02#6 => .instr (.peerCmdPush p)
  | 0x03#6 => .guard (p = 0#8) .peerStsPop
  | 0x04#6 => decodePend p
  | 0x10#6 => .instr (.peerHdr0 p)
  | 0x11#6 => .instr (.peerHdr1 p)
  | 0x12#6 => .instr (.peerHdr2 p)
  | 0x13#6 => .instr (.peerHdr3 p)
  | 0x14#6 => .instr (.peerShdr0 p)
  | 0x15#6 => .instr (.peerShdr1 p)
  | 0x16#6 => .instr (.peerShdr2 p)
  | 0x17#6 => .instr (.peerShdr3 p)
  | 0x18#6 => .guard (p.extractLsb' 2 6 = 0#6) (.peerStsFlags (p[0]) (p[1]))
  | 0x19#6 => .guard (p.extractLsb' 4 4 = 0#4) (.peerXferFlags (p[0]) (p[1]) (p[2]) (p[3]))
  | 0x1A#6 => .guard (p.extractLsb' 2 6 = 0#6) (.peerDest (p.extractLsb' 0 2))
  | 0x1B#6 => .instr (.peerLenLo p)
  | 0x1C#6 => .guard (p.extractLsb' 4 4 = 0#4) (.peerLenHi p)
  | 0x1D#6 => .instr (.peerPtrLo p)
  | 0x1E#6 => .instr (.peerPtrHi p)
  | 0x1F#6 => .instr (.peerTgtLo p)
  | 0x20#6 => .instr (.peerTgtHi p)
  | 0x21#6 => .instr (.peerSrcLo p)
  | 0x22#6 => .instr (.peerSrcHi p)
  | _ => .reject (.unassignedSysop op)

/-- Decoding by fields: the kind of R80 selects the format, R81 to R84 say which bits must be 0. -/
def Fields.decode (f : Fields) : Decoded :=
  match f.kind with
  | 0b00#2 => .guard (f.sysop = 0#6 && f.payload = 0#8) (readInstr f.port)
  | 0b01#2 => .guard (f.sysop = 0#6) (writeInstr f.port f.payload)
  | 0b10#2 => .guard (f.sysop = 0#6 && f.payload.extractLsb' 4 4 = 0#4) (.awr (f.payload.extractLsb' 0 4))
  | 0b11#2 => decodeSys f.sysop f.payload

/-- The decoder: "For DRD and DWR, `D[19:16]` selects which per-port rule runs. For AWR and SYS, `D[19:16]` is ignored." (R85). -/
def decode (d : DWord) : Decoded := (DWord.fields d).decode

/-! ## The encoder -/

/-- The port of a host data access (R38, R90); none for an operation that acts at no port. -/
def Instr.port? : Instr → Option Port
  | .rdComin => some 0x0#4
  | .rdIfstat => some 0x1#4
  | .rdDbcl => some 0x2#4
  | .rdDbch => some 0x3#4
  | .rdHead0 => some 0x4#4
  | .rdHead1 => some 0x5#4
  | .rdHead2 => some 0x6#4
  | .rdHead3 => some 0x7#4
  | .rdPtl => some 0x8#4
  | .rdPth => some 0x9#4
  | .rdWal => some 0xA#4
  | .rdWah => some 0xB#4
  | .rdStat0 => some 0xC#4
  | .rdStat1 => some 0xD#4
  | .rdStat2 => some 0xE#4
  | .rdStat3 => some 0xF#4
  | .wrSbout _ => some 0x0#4
  | .wrIfctrl _ => some 0x1#4
  | .wrDbcl _ => some 0x2#4
  | .wrDbch _ => some 0x3#4
  | .wrDacl _ => some 0x4#4
  | .wrDach _ => some 0x5#4
  | .wrDttrg _ => some 0x6#4
  | .wrDtack _ => some 0x7#4
  | .wrPtl _ => some 0x8#4
  | .wrPth _ => some 0x9#4
  | .wrCtrl0 _ => some 0xA#4
  | .wrCtrl1 _ => some 0xB#4
  | .wrWal _ => some 0xC#4
  | .wrWah _ => some 0xD#4
  | .wrCtrl2 _ => some 0xE#4
  | .wrReset _ => some 0xF#4
  | .awr _ => none
  | .tick => none
  | .power _ => none
  | .peerCmdPush _ => none
  | .peerStsPop => none
  | .peerSetPendDec => none
  | .peerSetPendXfer => none
  | .peerSetPendCmd => none
  | .peerHdr0 _ => none
  | .peerHdr1 _ => none
  | .peerHdr2 _ => none
  | .peerHdr3 _ => none
  | .peerShdr0 _ => none
  | .peerShdr1 _ => none
  | .peerShdr2 _ => none
  | .peerShdr3 _ => none
  | .peerStsFlags _ _ => none
  | .peerXferFlags _ _ _ _ => none
  | .peerDest _ => none
  | .peerLenLo _ => none
  | .peerLenHi _ => none
  | .peerPtrLo _ => none
  | .peerPtrHi _ => none
  | .peerTgtLo _ => none
  | .peerTgtHi _ => none
  | .peerSrcLo _ => none
  | .peerSrcHi _ => none

/-- The fields of the operation's word with the pointer nibble `port` (R81 to R84). -/
def Instr.sysFields (port : Port) (op : BitVec 6) (p : Byte) : Fields := ⟨port, 0b11#2, op, p⟩

/-- The fields of an operation that arrives when the pointer is `addr`: a data access has its own port in the pointer nibble, every
other operation has whatever the pointer holds (R85). -/
def Instr.fieldsAt (addr : Port) : Instr → Fields
  | .rdComin => ⟨0x0#4, 0b00#2, 0#6, 0#8⟩
  | .rdIfstat => ⟨0x1#4, 0b00#2, 0#6, 0#8⟩
  | .rdDbcl => ⟨0x2#4, 0b00#2, 0#6, 0#8⟩
  | .rdDbch => ⟨0x3#4, 0b00#2, 0#6, 0#8⟩
  | .rdHead0 => ⟨0x4#4, 0b00#2, 0#6, 0#8⟩
  | .rdHead1 => ⟨0x5#4, 0b00#2, 0#6, 0#8⟩
  | .rdHead2 => ⟨0x6#4, 0b00#2, 0#6, 0#8⟩
  | .rdHead3 => ⟨0x7#4, 0b00#2, 0#6, 0#8⟩
  | .rdPtl => ⟨0x8#4, 0b00#2, 0#6, 0#8⟩
  | .rdPth => ⟨0x9#4, 0b00#2, 0#6, 0#8⟩
  | .rdWal => ⟨0xA#4, 0b00#2, 0#6, 0#8⟩
  | .rdWah => ⟨0xB#4, 0b00#2, 0#6, 0#8⟩
  | .rdStat0 => ⟨0xC#4, 0b00#2, 0#6, 0#8⟩
  | .rdStat1 => ⟨0xD#4, 0b00#2, 0#6, 0#8⟩
  | .rdStat2 => ⟨0xE#4, 0b00#2, 0#6, 0#8⟩
  | .rdStat3 => ⟨0xF#4, 0b00#2, 0#6, 0#8⟩
  | .wrSbout d => ⟨0x0#4, 0b01#2, 0#6, d⟩
  | .wrIfctrl d => ⟨0x1#4, 0b01#2, 0#6, d⟩
  | .wrDbcl d => ⟨0x2#4, 0b01#2, 0#6, d⟩
  | .wrDbch d => ⟨0x3#4, 0b01#2, 0#6, d⟩
  | .wrDacl d => ⟨0x4#4, 0b01#2, 0#6, d⟩
  | .wrDach d => ⟨0x5#4, 0b01#2, 0#6, d⟩
  | .wrDttrg d => ⟨0x6#4, 0b01#2, 0#6, d⟩
  | .wrDtack d => ⟨0x7#4, 0b01#2, 0#6, d⟩
  | .wrPtl d => ⟨0x8#4, 0b01#2, 0#6, d⟩
  | .wrPth d => ⟨0x9#4, 0b01#2, 0#6, d⟩
  | .wrCtrl0 d => ⟨0xA#4, 0b01#2, 0#6, d⟩
  | .wrCtrl1 d => ⟨0xB#4, 0b01#2, 0#6, d⟩
  | .wrWal d => ⟨0xC#4, 0b01#2, 0#6, d⟩
  | .wrWah d => ⟨0xD#4, 0b01#2, 0#6, d⟩
  | .wrCtrl2 d => ⟨0xE#4, 0b01#2, 0#6, d⟩
  | .wrReset d => ⟨0xF#4, 0b01#2, 0#6, d⟩
  | .awr a => ⟨addr, 0b10#2, 0#6, 0#4 ++ a⟩
  | .tick => Instr.sysFields addr 0x00#6 0#8
  | .power r => Instr.sysFields addr 0x01#6 (0#7 ++ BitVec.ofBool r)
  | .peerCmdPush b => Instr.sysFields addr 0x02#6 b
  | .peerStsPop => Instr.sysFields addr 0x03#6 0#8
  | .peerSetPendDec => Instr.sysFields addr 0x04#6 0#8
  | .peerSetPendXfer => Instr.sysFields addr 0x04#6 1#8
  | .peerSetPendCmd => Instr.sysFields addr 0x04#6 2#8
  | .peerHdr0 b => Instr.sysFields addr 0x10#6 b
  | .peerHdr1 b => Instr.sysFields addr 0x11#6 b
  | .peerHdr2 b => Instr.sysFields addr 0x12#6 b
  | .peerHdr3 b => Instr.sysFields addr 0x13#6 b
  | .peerShdr0 b => Instr.sysFields addr 0x14#6 b
  | .peerShdr1 b => Instr.sysFields addr 0x15#6 b
  | .peerShdr2 b => Instr.sysFields addr 0x16#6 b
  | .peerShdr3 b => Instr.sysFields addr 0x17#6 b
  | .peerStsFlags act busy => Instr.sysFields addr 0x18#6 (0#6 ++ BitVec.ofBool busy ++ BitVec.ofBool act)
  | .peerXferFlags act busy ready done => Instr.sysFields addr 0x19#6 (0#4 ++ BitVec.ofBool done ++ BitVec.ofBool ready ++ BitVec.ofBool busy ++ BitVec.ofBool act)
  | .peerDest n => Instr.sysFields addr 0x1A#6 (0#6 ++ n)
  | .peerLenLo b => Instr.sysFields addr 0x1B#6 b
  | .peerLenHi b => Instr.sysFields addr 0x1C#6 b
  | .peerPtrLo b => Instr.sysFields addr 0x1D#6 b
  | .peerPtrHi b => Instr.sysFields addr 0x1E#6 b
  | .peerTgtLo b => Instr.sysFields addr 0x1F#6 b
  | .peerTgtHi b => Instr.sysFields addr 0x20#6 b
  | .peerSrcLo b => Instr.sysFields addr 0x21#6 b
  | .peerSrcHi b => Instr.sysFields addr 0x22#6 b

/-- The decode word of an operation that arrives when the pointer is `addr`. -/
def encodeAt (addr : Port) (i : Instr) : DWord := (i.fieldsAt addr).toDWord

/-- The transaction word of an operation (R81 to R84). -/
def encode (i : Instr) : TWord := (encodeAt 0#4 i).extractLsb' 0 16

/-! ## The opcode table -/

/-- One row of spec/opcode_table.json: "A word D selects the row with `D & mask = match`." (R85). -/
structure OpcodeRow where
  /-- The row's `match`. -/
  bits : DWord
  /-- The row's `mask`. -/
  mask : DWord
  deriving DecidableEq, Repr

/-- The word selects the row (R85). -/
abbrev OpcodeRow.Selects (r : OpcodeRow) (d : DWord) : Prop := d &&& r.mask = r.bits

/-- The row of each operation, as spec/opcode_table.json gives it. -/
def Instr.row : Instr → OpcodeRow
  | .rdComin => ⟨0x00000#20, 0xFFFFF#20⟩
  | .rdIfstat => ⟨0x10000#20, 0xFFFFF#20⟩
  | .rdDbcl => ⟨0x20000#20, 0xFFFFF#20⟩
  | .rdDbch => ⟨0x30000#20, 0xFFFFF#20⟩
  | .rdHead0 => ⟨0x40000#20, 0xFFFFF#20⟩
  | .rdHead1 => ⟨0x50000#20, 0xFFFFF#20⟩
  | .rdHead2 => ⟨0x60000#20, 0xFFFFF#20⟩
  | .rdHead3 => ⟨0x70000#20, 0xFFFFF#20⟩
  | .rdPtl => ⟨0x80000#20, 0xFFFFF#20⟩
  | .rdPth => ⟨0x90000#20, 0xFFFFF#20⟩
  | .rdWal => ⟨0xA0000#20, 0xFFFFF#20⟩
  | .rdWah => ⟨0xB0000#20, 0xFFFFF#20⟩
  | .rdStat0 => ⟨0xC0000#20, 0xFFFFF#20⟩
  | .rdStat1 => ⟨0xD0000#20, 0xFFFFF#20⟩
  | .rdStat2 => ⟨0xE0000#20, 0xFFFFF#20⟩
  | .rdStat3 => ⟨0xF0000#20, 0xFFFFF#20⟩
  | .wrSbout _ => ⟨0x04000#20, 0xFFF00#20⟩
  | .wrIfctrl _ => ⟨0x14000#20, 0xFFF00#20⟩
  | .wrDbcl _ => ⟨0x24000#20, 0xFFF00#20⟩
  | .wrDbch _ => ⟨0x34000#20, 0xFFF00#20⟩
  | .wrDacl _ => ⟨0x44000#20, 0xFFF00#20⟩
  | .wrDach _ => ⟨0x54000#20, 0xFFF00#20⟩
  | .wrDttrg _ => ⟨0x64000#20, 0xFFF00#20⟩
  | .wrDtack _ => ⟨0x74000#20, 0xFFF00#20⟩
  | .wrPtl _ => ⟨0x84000#20, 0xFFF00#20⟩
  | .wrPth _ => ⟨0x94000#20, 0xFFF00#20⟩
  | .wrCtrl0 _ => ⟨0xA4000#20, 0xFFF00#20⟩
  | .wrCtrl1 _ => ⟨0xB4000#20, 0xFFF00#20⟩
  | .wrWal _ => ⟨0xC4000#20, 0xFFF00#20⟩
  | .wrWah _ => ⟨0xD4000#20, 0xFFF00#20⟩
  | .wrCtrl2 _ => ⟨0xE4000#20, 0xFFF00#20⟩
  | .wrReset _ => ⟨0xF4000#20, 0xFFF00#20⟩
  | .awr _ => ⟨0x08000#20, 0x0FFF0#20⟩
  | .tick => ⟨0x0C000#20, 0x0FFFF#20⟩
  | .power _ => ⟨0x0C100#20, 0x0FFFE#20⟩
  | .peerCmdPush _ => ⟨0x0C200#20, 0x0FF00#20⟩
  | .peerStsPop => ⟨0x0C300#20, 0x0FFFF#20⟩
  | .peerSetPendDec => ⟨0x0C400#20, 0x0FFFF#20⟩
  | .peerSetPendXfer => ⟨0x0C401#20, 0x0FFFF#20⟩
  | .peerSetPendCmd => ⟨0x0C402#20, 0x0FFFF#20⟩
  | .peerHdr0 _ => ⟨0x0D000#20, 0x0FF00#20⟩
  | .peerHdr1 _ => ⟨0x0D100#20, 0x0FF00#20⟩
  | .peerHdr2 _ => ⟨0x0D200#20, 0x0FF00#20⟩
  | .peerHdr3 _ => ⟨0x0D300#20, 0x0FF00#20⟩
  | .peerShdr0 _ => ⟨0x0D400#20, 0x0FF00#20⟩
  | .peerShdr1 _ => ⟨0x0D500#20, 0x0FF00#20⟩
  | .peerShdr2 _ => ⟨0x0D600#20, 0x0FF00#20⟩
  | .peerShdr3 _ => ⟨0x0D700#20, 0x0FF00#20⟩
  | .peerStsFlags _ _ => ⟨0x0D800#20, 0x0FFFC#20⟩
  | .peerXferFlags _ _ _ _ => ⟨0x0D900#20, 0x0FFF0#20⟩
  | .peerDest _ => ⟨0x0DA00#20, 0x0FFFC#20⟩
  | .peerLenLo _ => ⟨0x0DB00#20, 0x0FF00#20⟩
  | .peerLenHi _ => ⟨0x0DC00#20, 0x0FFF0#20⟩
  | .peerPtrLo _ => ⟨0x0DD00#20, 0x0FF00#20⟩
  | .peerPtrHi _ => ⟨0x0DE00#20, 0x0FF00#20⟩
  | .peerTgtLo _ => ⟨0x0DF00#20, 0x0FF00#20⟩
  | .peerTgtHi _ => ⟨0x0E000#20, 0x0FF00#20⟩
  | .peerSrcLo _ => ⟨0x0E100#20, 0x0FF00#20⟩
  | .peerSrcHi _ => ⟨0x0E200#20, 0x0FF00#20⟩

/-- The 16 DRD rows, RD.COMIN to RD.STAT3. -/
def opcodeRowsRead : List OpcodeRow := [
  ⟨0x00000#20, 0xFFFFF#20⟩,
  ⟨0x10000#20, 0xFFFFF#20⟩,
  ⟨0x20000#20, 0xFFFFF#20⟩,
  ⟨0x30000#20, 0xFFFFF#20⟩,
  ⟨0x40000#20, 0xFFFFF#20⟩,
  ⟨0x50000#20, 0xFFFFF#20⟩,
  ⟨0x60000#20, 0xFFFFF#20⟩,
  ⟨0x70000#20, 0xFFFFF#20⟩,
  ⟨0x80000#20, 0xFFFFF#20⟩,
  ⟨0x90000#20, 0xFFFFF#20⟩,
  ⟨0xA0000#20, 0xFFFFF#20⟩,
  ⟨0xB0000#20, 0xFFFFF#20⟩,
  ⟨0xC0000#20, 0xFFFFF#20⟩,
  ⟨0xD0000#20, 0xFFFFF#20⟩,
  ⟨0xE0000#20, 0xFFFFF#20⟩,
  ⟨0xF0000#20, 0xFFFFF#20⟩]

/-- The 16 DWR rows, WR.SBOUT to WR.RESET. -/
def opcodeRowsWrite : List OpcodeRow := [
  ⟨0x04000#20, 0xFFF00#20⟩,
  ⟨0x14000#20, 0xFFF00#20⟩,
  ⟨0x24000#20, 0xFFF00#20⟩,
  ⟨0x34000#20, 0xFFF00#20⟩,
  ⟨0x44000#20, 0xFFF00#20⟩,
  ⟨0x54000#20, 0xFFF00#20⟩,
  ⟨0x64000#20, 0xFFF00#20⟩,
  ⟨0x74000#20, 0xFFF00#20⟩,
  ⟨0x84000#20, 0xFFF00#20⟩,
  ⟨0x94000#20, 0xFFF00#20⟩,
  ⟨0xA4000#20, 0xFFF00#20⟩,
  ⟨0xB4000#20, 0xFFF00#20⟩,
  ⟨0xC4000#20, 0xFFF00#20⟩,
  ⟨0xD4000#20, 0xFFF00#20⟩,
  ⟨0xE4000#20, 0xFFF00#20⟩,
  ⟨0xF4000#20, 0xFFF00#20⟩]

/-- The AWR row and the 26 SYS rows, TICK to PEER_SRC_HI. -/
def opcodeRowsPointerAndSys : List OpcodeRow := [
  ⟨0x08000#20, 0x0FFF0#20⟩,
  ⟨0x0C000#20, 0x0FFFF#20⟩,
  ⟨0x0C100#20, 0x0FFFE#20⟩,
  ⟨0x0C200#20, 0x0FF00#20⟩,
  ⟨0x0C300#20, 0x0FFFF#20⟩,
  ⟨0x0C400#20, 0x0FFFF#20⟩,
  ⟨0x0C401#20, 0x0FFFF#20⟩,
  ⟨0x0C402#20, 0x0FFFF#20⟩,
  ⟨0x0D000#20, 0x0FF00#20⟩,
  ⟨0x0D100#20, 0x0FF00#20⟩,
  ⟨0x0D200#20, 0x0FF00#20⟩,
  ⟨0x0D300#20, 0x0FF00#20⟩,
  ⟨0x0D400#20, 0x0FF00#20⟩,
  ⟨0x0D500#20, 0x0FF00#20⟩,
  ⟨0x0D600#20, 0x0FF00#20⟩,
  ⟨0x0D700#20, 0x0FF00#20⟩,
  ⟨0x0D800#20, 0x0FFFC#20⟩,
  ⟨0x0D900#20, 0x0FFF0#20⟩,
  ⟨0x0DA00#20, 0x0FFFC#20⟩,
  ⟨0x0DB00#20, 0x0FF00#20⟩,
  ⟨0x0DC00#20, 0x0FFF0#20⟩,
  ⟨0x0DD00#20, 0x0FF00#20⟩,
  ⟨0x0DE00#20, 0x0FF00#20⟩,
  ⟨0x0DF00#20, 0x0FF00#20⟩,
  ⟨0x0E000#20, 0x0FF00#20⟩,
  ⟨0x0E100#20, 0x0FF00#20⟩,
  ⟨0x0E200#20, 0x0FF00#20⟩]

/-- The 59 rows of spec/opcode_table.json. -/
def opcodeTable : List OpcodeRow := opcodeRowsRead ++ (opcodeRowsWrite ++ opcodeRowsPointerAndSys)

/-! ## The host's numbering -/

/-- The decoder on an instruction whose bits are `w`, numbered as spec/opcode_table.json numbers them: bits 15:0 are T and bits 19:16
the pointer nibble, bits above `nbits` are 0 and no bit above 19 exists (R85). -/
def decodeTableWord (nbits w : Nat) : Option Instr :=
  if w % 2 ^ nbits < 2 ^ 20 then (decode (BitVec.ofNat 20 (w % 2 ^ nbits))).toOption else none

end Sys2Proof
end

