-- ==== Sys2Proof/Machine/State.lean ====
section
/-!
DEFINITION. The state of the core: the tuple of 10_state.md R20 under the spec's own dotted names, the parameters of R7, and the
model's three channels to the outside world. All of it is plain data.
-/

namespace Sys2Proof.Machine

/-- A ring buffer of bytes (R22, R23, R26). The fields' bounds are `Queue.Wf` in Safety.lean. -/
structure Queue where
  /-- `q.fifo[0..DEPTH-1]`. -/
  fifo : List Byte
  /-- `q.read`, modulo the depth. -/
  read : Nat
  /-- `q.write`, modulo the depth. -/
  write : Nat
  /-- `q.empty`. -/
  empty : Bool
  deriving DecidableEq, Repr

/-- The status queue: a ring buffer and four one-bit flags (R23, R24). -/
structure StatusQueue extends Queue where
  active : Bool
  busy : Bool
  /-- Read by no rule of the core (R24). -/
  enable : Bool
  /-- Gates host status writes (R121). -/
  wait : Bool
  deriving DecidableEq, Repr

/-- Transfer bookkeeping (R28 to R30). -/
structure Transfer where
  length : Length
  pointer : Addr16
  source : Addr16
  target : Addr16
  active : Bool
  busy : Bool
  enable : Bool
  /-- Read by no rule of the core (R29). -/
  wait : Bool
  /-- The destination selector (R30). -/
  dest : Dest
  /-- One-shot flag (R30). -/
  ready : Bool
  /-- One-shot flag (R30). -/
  done : Bool
  deriving DecidableEq, Repr

/-- The 18 control bits (R31); the layouts are R42 to R45. -/
structure Control where
  prq : Bool
  qrq : Bool
  wrrq : Bool
  eramrq : Bool
  autorq : Bool
  e01rq : Bool
  head : Bool
  mbckrq : Bool
  formrq : Bool
  modrq : Bool
  cowren : Bool
  dscren : Bool
  syden : Bool
  syien : Bool
  stentrg : Bool
  stenctl : Bool
  eprmrq : Bool
  cmdbrk : Bool
  deriving DecidableEq, Repr

/-- Decoder state (R32). -/
structure Decoder where
  enable : Bool
  mode : Bool
  form : Bool
  deriving DecidableEq, Repr

/-- One interrupt source: its enable and its pending bit (R34). -/
structure IrqSource where
  en : Bool
  pend : Bool
  deriving DecidableEq, Repr

/-- The three interrupt sources (R34). -/
structure Irq where
  dec : IrqSource
  xfer : IrqSource
  cmd : IrqSource
  deriving DecidableEq, Repr

/-- The header cache (R36). -/
structure Header where
  minute : Byte
  second : Byte
  block : Byte
  mode : Byte
  deriving DecidableEq, Repr

/-- The subheader cache (R36). -/
structure Subheader where
  file : Byte
  channel : Byte
  submode : Byte
  coding : Byte
  deriving DecidableEq, Repr

/-- The machine. Fields `addr` to `cnt` are the tuple of R20; the others are the model's own (logs 1, 3, 4). -/
structure State where
  /-- The parameters of R7; no operation changes them (DESIGN CHOICE, log 4). -/
  params : Params
  /-- The Address Pointer (R21). -/
  addr : Port
  /-- The command queue (R22). -/
  cmd : Queue
  /-- The status queue (R23). -/
  sts : StatusQueue
  xfer : Transfer
  ctl : Control
  dec : Decoder
  irq : Irq
  /-- The interrupt line `irq_out`, a registered bit (R35). -/
  irqOut : Bool
  hdr : Header
  shdr : Subheader
  /-- The free-running counter (R37), below `2 ^ CNT_WIDTH`. -/
  cnt : Nat
  /-- The transaction words still to arrive, the next one first (DESIGN CHOICE, log 1, safe). -/
  inbox : List TWord
  /-- The byte the latest data read returned to the host (R10, R100), none before the first one (DESIGN CHOICE, log 3, safe). -/
  hostData : Option Byte
  /-- What the latest PEER_STS_POP gave the peer: "a byte, or nothing" (R172); none before the first one (DESIGN CHOICE, log 3,
  safe). -/
  peerData : Option Byte
  deriving DecidableEq, Repr

/-- The core has no fault: "The core raises no exception, fault or trap, and no operation of the source fails" (R190). So no
constructor exists and no step can answer a fault (DEDUCED, log 7, safe). -/
inductive Fault where
  deriving DecidableEq, Repr

/-- Why the model takes no step. -/
inductive Refusal where
  /-- An instruction that has no meaning yet; raised by `exec` alone. Safe: the model stops. -/
  | notModelled (mnemonic : String)
  /-- A transaction word outside the encoding; raised by `step` (R86). Safe: such a word spells no operation (log 8). -/
  | invalidWord (r : Reject)
  /-- A peer push into a full command queue; raised by PEER_CMD_PUSH (R171: "A push into a full queue has no step"). Unsafe for a
  peer that overruns the depth, as the spec says (D26): the model lacks that run (log 9). -/
  | commandQueueFull
  deriving DecidableEq, Repr

/-- What a meaning answers. -/
abbrev Answer := Host.Outcome State Fault Refusal

/-- The state at creation with parameters `p`: the "power" column of R40 (R159). -/
def State.powerOn (p : Params) : State where
  params := p
  addr := 0#4
  cmd := { fifo := List.replicate p.cmdDepth 0#8, read := 0, write := 0, empty := true }
  sts := { fifo := List.replicate p.stsDepth 0#8, read := 0, write := 0, empty := true, active := false, busy := false,
           enable := false, wait := false }
  xfer := { length := 0#12, pointer := 0#16, source := 0#16, target := 0#16, active := false, busy := false, enable := false,
            wait := false, dest := 0#2, ready := false, done := false }
  ctl := { prq := false, qrq := false, wrrq := false, eramrq := false, autorq := false, e01rq := false, head := false,
           mbckrq := false, formrq := false, modrq := false, cowren := false, dscren := false, syden := false, syien := false,
           stentrg := false, stenctl := false, eprmrq := false, cmdbrk := false }
  dec := { enable := false, mode := false, form := false }
  irq := { dec := ⟨false, false⟩, xfer := ⟨false, false⟩, cmd := ⟨false, false⟩ }
  irqOut := false
  hdr := { minute := 0#8, second := 0#8, block := 0#8, mode := 0#8 }
  shdr := { file := 0#8, channel := 0#8, submode := 0#8, coding := 0#8 }
  cnt := 0
  inbox := []
  hostData := none
  peerData := none

/-- The machine right after reset: creation with the default parameters of R7 (R40, R159, log 4). -/
def State.reset : State := State.powerOn Params.default

end Sys2Proof.Machine
end

