-- ==== Sys2Proof/Machine/Operands.lean ====
section
/-!
DEFINITION. The byte lanes of the multi-byte fields: "Multi-byte fields cross the ports low byte first" (10_state.md R50). A write of
one lane leaves the other lane as it was (70_reset_and_hazards.md R225: no shadow register).
-/

namespace Sys2Proof.Machine

/-- `v[7:0]` of a 16-bit field. -/
def lowByte (v : Addr16) : Byte := v.extractLsb' 0 8

/-- `v[15:8]` of a 16-bit field. -/
def highByte (v : Addr16) : Byte := v.extractLsb' 8 8

/-- `v[7:0] <- b` on a 16-bit field. -/
def setLowByte (v : Addr16) (b : Byte) : Addr16 := v.extractLsb' 8 8 ++ b

/-- `v[15:8] <- b` on a 16-bit field. -/
def setHighByte (v : Addr16) (b : Byte) : Addr16 := b ++ v.extractLsb' 0 8

/-- `v[7:0]` of the 12-bit length (R103). -/
def lengthLow (v : Length) : Byte := v.extractLsb' 0 8

/-- `{0b0000, v[11:8]}` of the 12-bit length (R104). -/
def lengthHigh (v : Length) : Byte := 0#4 ++ v.extractLsb' 8 4

/-- `v[7:0] <- b` on the 12-bit length (R123). -/
def setLengthLow (v : Length) (b : Byte) : Length := v.extractLsb' 8 4 ++ b

/-- `v[11:8] <- b[3:0]` on the 12-bit length; `b[7:4]` is ignored (R124). -/
def setLengthHigh (v : Length) (b : Byte) : Length := b.extractLsb' 0 4 ++ v.extractLsb' 0 8

end Sys2Proof.Machine
end

