-- ==== Sys2Proof/Machine/Ops.lean ====
section
/-!
DEFINITION. The shared operations: the queue primitives (10_state.md R26, R27), the interrupt aggregator `poll()` (60_exceptions.md
R191), the pointer rule `advance(p)` (42_pointer_lifecycle.md R151), the derived decoder bits (R137), the two resets, the answer to
the host or the peer, and taking the next transaction word. The core takes no exception and has no return from one (R190, R199,
R200): what it does about an interrupt is `poll()`.
-/

namespace Sys2Proof.Machine

/-! ## Queues -/

/-- `count(q)`, the number of unread bytes: 0 where the queue is empty, else `((q.write - q.read - 1) mod DEPTH) + 1` (R27). The depth
is added before the subtraction, so that natural-number subtraction does not truncate for `q.read < DEPTH`. -/
def Queue.count (depth : Nat) (q : Queue) : Nat :=
  if q.empty then 0 else (q.write + depth - 1 - q.read) % depth + 1

/-- `q.fifo[q.read]` (R26). -/
def Queue.front (q : Queue) : Byte := q.fifo.getD q.read 0#8

/-- `q.read <- (q.read + 1) mod DEPTH` (R26). -/
def Queue.advanceRead (depth : Nat) (q : Queue) : Queue := { q with read := (q.read + 1) % depth }

/-- The index and flag of a read: the read index moves and the flag says whether it met the write index (R101, R172). -/
def Queue.pop (depth : Nat) (q : Queue) : Queue :=
  { q with read := (q.read + 1) % depth, empty := decide ((q.read + 1) % depth = q.write) }

/-- A write to a queue: the byte is stored at the write index, which then moves; the queue is not empty (R26, R121, R171). -/
def Queue.push (depth : Nat) (b : Byte) (q : Queue) : Queue :=
  { q with fifo := q.fifo.set q.write b, write := (q.write + 1) % depth, empty := false }

/-- A queue emptied by power or by the software reset: every byte 0x00, both indices 0, the empty flag 1 (R40, R136). -/
def Queue.cleared (depth : Nat) : Queue :=
  { fifo := List.replicate depth 0#8, read := 0, write := 0, empty := true }

/-! ## Interrupts -/

/-- `agg` of R193: some source is enabled and pending. -/
def State.aggregate (s : State) : Bool :=
  (s.irq.dec.en && s.irq.dec.pend) || (s.irq.xfer.en && s.irq.xfer.pend) || (s.irq.cmd.en && s.irq.cmd.pend)

/-- `poll()` (R191). -/
def State.poll (s : State) : State := { s with irqOut := s.aggregate }

/-- `irq.dec.pend <- v`. -/
def State.setDecPend (v : Bool) (s : State) : State :=
  { s with irq := { s.irq with dec := { s.irq.dec with pend := v } } }

/-- `irq.xfer.pend <- v`. -/
def State.setXferPend (v : Bool) (s : State) : State :=
  { s with irq := { s.irq with xfer := { s.irq.xfer with pend := v } } }

/-- `irq.cmd.pend <- v`. -/
def State.setCmdPend (v : Bool) (s : State) : State :=
  { s with irq := { s.irq with cmd := { s.irq.cmd with pend := v } } }

/-! ## The Address Pointer -/

/-- The pointer after an access of port `p`: "ports 1..14 go to p+1; port 15 goes to 0" and port 0 stays (R151, R152). -/
def nextPort (p : Port) : Port := if p = 0#4 then 0#4 else p + 1#4

/-- `advance(p)` (R151). -/
def State.advance (p : Port) (s : State) : State := { s with addr := nextPort p }

/-! ## Host accesses -/

/-- `return d`: the byte goes back to the host (R10, R100, log 3). -/
def State.answerHost (d : Byte) (s : State) : State := { s with hostData := some d }

/-- What PEER_STS_POP gives back, a byte or nothing (R172, log 3). -/
def State.answerPeer (b : Option Byte) (s : State) : State := { s with peerData := b }

/-- The end of a data read of port `p` that returns `d`, once the port's own effect is done (R100). -/
def hostRead (p : Port) (d : Byte) (s : State) : Answer := .next ((s.answerHost d).advance p)

/-- The end of a data write of port `p`, once the port's own effect is done (R120). -/
def hostWrite (p : Port) (s : State) : Answer := .next (s.advance p)

/-! ## Status writes -/

/-- The gate of a host status write: `sts.wait = 1 and xfer.busy = 1` (R121). -/
def State.statusGated (s : State) : Bool := s.sts.wait && s.xfer.busy

/-- Whether a host status write discards the oldest unread byte first (R121, `STS_EVICT` of R7). -/
def State.statusEvicts (s : State) : Bool :=
  match s.params.stsEvict with
  | .one => s.sts.toQueue.count s.params.stsDepth = 1
  | .full => s.sts.toQueue.count s.params.stsDepth = s.params.stsDepth

/-- The queue that the new status byte is appended to: without its oldest byte where the write evicts (R121). -/
def State.statusRoom (s : State) : Queue :=
  if s.statusEvicts then s.sts.toQueue.advanceRead s.params.stsDepth else s.sts.toQueue

/-- The accepted status write: evict, append, mark the queue active and busy (R121). -/
def State.statusAppend (d : Byte) (s : State) : State :=
  { s with sts := { s.sts with toQueue := s.statusRoom.push s.params.stsDepth d, active := true, busy := true } }

/-! ## Transfers -/

/-- "abort transfer bookkeeping": `xfer.active <- 0 ; xfer.busy <- 0` (R122). -/
def State.abortTransfer (s : State) : State :=
  { s with xfer := { s.xfer with active := false, busy := false } }

/-- The enabled trigger of port 6: active and busy set, both one-shot flags cleared, then `xfer.ready` set where the selector is one
of `CPU_READ_DESTS` (R127). -/
def State.triggerTransfer (s : State) : State :=
  { s with xfer := { s.xfer with active := true, busy := true, done := false,
                                 ready := s.params.cpuReadDests.contains s.xfer.dest } }

/-! ## Decoder -/

/-- `dec_update()` (R137). -/
def State.decUpdate (s : State) : State :=
  { s with dec := { s.dec with form := s.ctl.formrq && s.ctl.autorq, mode := s.ctl.modrq } }

/-! ## Resets -/

/-- The software reset, as R136 lists it: the line drops without a poll; both queues, the transfer fields and flags, the header and
the subheader are cleared; everything else, `xfer.dest` and the one-shot flags among it, is untouched. -/
def State.softwareReset (s : State) : State :=
  { s with
    irqOut := false
    cmd := Queue.cleared s.params.cmdDepth
    sts := { Queue.cleared s.params.stsDepth with active := false, busy := false, enable := false, wait := false }
    xfer := { s.xfer with length := 0#12, pointer := 0#16, source := 0#16, target := 0#16, active := false, busy := false,
                          enable := false, wait := false }
    hdr := ⟨0#8, 0#8, 0#8, 0#8⟩
    shdr := ⟨0#8, 0#8, 0#8, 0#8⟩ }

/-- `Power(r)`: every state element takes its "power" value (R40, R157). The parameters are no state of the core, and the words still
to arrive and the bytes already given back are outside it, so they stay (logs 1, 3, 4). -/
def State.powerClear (s : State) : State :=
  { s with
    addr := 0#4
    cmd := Queue.cleared s.params.cmdDepth
    sts := { Queue.cleared s.params.stsDepth with active := false, busy := false, enable := false, wait := false }
    xfer := ⟨0#12, 0#16, 0#16, 0#16, false, false, false, false, 0#2, false, false⟩
    ctl := ⟨false, false, false, false, false, false, false, false, false, false, false, false, false, false, false, false, false, false⟩
    dec := ⟨false, false, false⟩
    irq := ⟨⟨false, false⟩, ⟨false, false⟩, ⟨false, false⟩⟩
    irqOut := false
    hdr := ⟨0#8, 0#8, 0#8, 0#8⟩
    shdr := ⟨0#8, 0#8, 0#8, 0#8⟩
    cnt := 0 }

/-! ## Arrival of an operation -/

/-- The next operation: its decode word, formed "when the operation arrives, from the current pointer and the transaction word"
(R85), and the state without the word; none where no word is there (log 1). -/
def State.fetch (s : State) : Option (DWord × State) :=
  match s.inbox with
  | [] => none
  | t :: rest => some (decodeWord s.addr t, { s with inbox := rest })

/-- With no operation there, the core keeps its state: it has no engine of its own (R5, R71; DEDUCED, log 2, safe). -/
def State.idle (s : State) : Answer := .next s

/-- The word `T` of the decode word `d` put first in the inbox; for a data access the pointer is set to the port nibble, which selects
its rule, and for every other kind it is left alone (R85; DESIGN CHOICE, log 2, safe). -/
def State.present (d : DWord) (s : State) : State :=
  { s with
    inbox := d.extractLsb' 0 16 :: s.inbox
    addr := if d.extractLsb' 15 1 = 0#1 then d.extractLsb' 16 4 else s.addr }

end Sys2Proof.Machine
end

