-- ==== Sys2Proof/Machine/Flags.lean ====
section
/-!
DEFINITION. The packed registers: the status bytes a read returns (10_state.md R41, R46 to R49) and the control bytes a write takes
apart (R42 to R45). Reserved bits are not stored (R51).
-/

namespace Sys2Proof.Machine

/-- A byte from its eight bits, bit 7 first. -/
def packByte (b7 b6 b5 b4 b3 b2 b1 b0 : Bool) : Byte :=
  BitVec.ofBool b7 ++ BitVec.ofBool b6 ++ BitVec.ofBool b5 ++ BitVec.ofBool b4 ++ BitVec.ofBool b3 ++ BitVec.ofBool b2 ++
    BitVec.ofBool b1 ++ BitVec.ofBool b0

/-- IFSTAT (R41, R102). -/
def State.ifstat (s : State) : Byte :=
  packByte (!s.irq.cmd.pend) (!s.irq.xfer.pend) (!s.irq.dec.pend) true (!s.xfer.busy) (!s.sts.busy) (!s.xfer.active) (!s.sts.active)

/-- STAT0: `{dec.enable, 0b0000000}` (R46). -/
def State.stat0 (s : State) : Byte := packByte s.dec.enable false false false false false false false

/-- STAT1: always 0x00 (R47). -/
def stat1 : Byte := 0x00#8

/-- STAT2: `{0b0000, dec.mode, dec.form, 0b00}` (R48). -/
def State.stat2 (s : State) : Byte := packByte false false false false s.dec.mode s.dec.form false false

/-- STAT3: always 0x80 (R49). -/
def stat3 : Byte := 0x80#8

/-- One of ports 4 to 7: the subheader byte where `ctl.head = 1`, else the header byte (R105). -/
def State.headByte (hdrByte shdrByte : Byte) (s : State) : Byte := if s.ctl.head then shdrByte else hdrByte

/-- The eight fields of IFCTRL (R42, R122); the wait flags and `ctl.cmdbrk` are stored inverted. -/
def State.loadIfctrl (d : Byte) (s : State) : State :=
  { s with
    sts := { s.sts with enable := d[0], wait := !d[2] }
    xfer := { s.xfer with enable := d[1], wait := !d[3] }
    ctl := { s.ctl with cmdbrk := !d[4] }
    irq := { dec := { s.irq.dec with en := d[5] }
             xfer := { s.irq.xfer with en := d[6] }
             cmd := { s.irq.cmd with en := d[7] } } }

/-- The fields of CTRL0 (R43, R131); bit 6 is ignored. -/
def State.loadCtrl0 (d : Byte) (s : State) : State :=
  { s with
    ctl := { s.ctl with prq := d[0], qrq := d[1], wrrq := d[2], eramrq := d[3],
                        autorq := d[4], e01rq := d[5] }
    dec := { s.dec with enable := d[7] } }

/-- The fields of CTRL1 (R44, R132). -/
def State.loadCtrl1 (d : Byte) (s : State) : State :=
  { s with
    ctl := { s.ctl with head := d[0], mbckrq := d[1], formrq := d[2], modrq := d[3],
                        cowren := d[4], dscren := d[5], syden := d[6], syien := d[7] } }

/-- The fields of CTRL2 (R45, R135); bits 3 to 7 are ignored. -/
def State.loadCtrl2 (d : Byte) (s : State) : State :=
  { s with ctl := { s.ctl with stentrg := d[0], stenctl := d[1], eprmrq := d[2] } }

end Sys2Proof.Machine
end

