-- ==== Sys2Proof/Machine/Peer.lean ====
section
/-!
DEFINITION. The peer actions (43_peer_interface.md R171 to R179). None changes the pointer (R181).
-/

namespace Sys2Proof.Machine

/-- PEER_CMD_PUSH (R171): "requires count(cmd) < CMD_DEPTH"; "A push into a full queue has no step" (D26, log 9). -/
def execPeerCmdPush (b : Byte) (s : State) : Answer :=
  if s.cmd.count s.params.cmdDepth < s.params.cmdDepth then .next { s with cmd := s.cmd.push s.params.cmdDepth b }
  else .refused .commandQueueFull

/-- PEER_STS_POP (R172): gives the oldest status byte, or nothing from an empty queue; `sts.active` and `sts.busy` stay. -/
def execPeerStsPop (s : State) : Answer :=
  if s.sts.empty then .next (s.answerPeer none)
  else .next (State.answerPeer (some s.sts.toQueue.front)
    { s with sts := { s.sts with toQueue := s.sts.toQueue.pop s.params.stsDepth } })

/-- PEER_SET_PEND.DEC (R173): sets the flag and polls. -/
def execPeerSetPendDec (s : State) : Answer := .next (s.setDecPend true).poll

/-- PEER_SET_PEND.XFER (R173). -/
def execPeerSetPendXfer (s : State) : Answer := .next (s.setXferPend true).poll

/-- PEER_SET_PEND.CMD (R173). -/
def execPeerSetPendCmd (s : State) : Answer := .next (s.setCmdPend true).poll

/-- PEER_HDR0 (R174). -/
def execPeerHdr0 (b : Byte) (s : State) : Answer := .next { s with hdr := { s.hdr with minute := b } }

/-- PEER_HDR1 (R174). -/
def execPeerHdr1 (b : Byte) (s : State) : Answer := .next { s with hdr := { s.hdr with second := b } }

/-- PEER_HDR2 (R174). -/
def execPeerHdr2 (b : Byte) (s : State) : Answer := .next { s with hdr := { s.hdr with block := b } }

/-- PEER_HDR3 (R174). -/
def execPeerHdr3 (b : Byte) (s : State) : Answer := .next { s with hdr := { s.hdr with mode := b } }

/-- PEER_SHDR0 (R175). -/
def execPeerShdr0 (b : Byte) (s : State) : Answer := .next { s with shdr := { s.shdr with file := b } }

/-- PEER_SHDR1 (R175). -/
def execPeerShdr1 (b : Byte) (s : State) : Answer := .next { s with shdr := { s.shdr with channel := b } }

/-- PEER_SHDR2 (R175). -/
def execPeerShdr2 (b : Byte) (s : State) : Answer := .next { s with shdr := { s.shdr with submode := b } }

/-- PEER_SHDR3 (R175). -/
def execPeerShdr3 (b : Byte) (s : State) : Answer := .next { s with shdr := { s.shdr with coding := b } }

/-- PEER_STS_FLAGS (R176). -/
def execPeerStsFlags (act busy : Bool) (s : State) : Answer := .next { s with sts := { s.sts with active := act, busy := busy } }

/-- PEER_XFER_FLAGS (R177). -/
def execPeerXferFlags (act busy ready done : Bool) (s : State) : Answer :=
  .next { s with xfer := { s.xfer with active := act, busy := busy, ready := ready, done := done } }

/-- PEER_DEST (R178). -/
def execPeerDest (n : Dest) (s : State) : Answer := .next { s with xfer := { s.xfer with dest := n } }

/-- PEER_LEN_LO (R179). -/
def execPeerLenLo (b : Byte) (s : State) : Answer :=
  .next { s with xfer := { s.xfer with length := setLengthLow s.xfer.length b } }

/-- PEER_LEN_HI (R179). -/
def execPeerLenHi (b : Byte) (s : State) : Answer :=
  .next { s with xfer := { s.xfer with length := setLengthHigh s.xfer.length b } }

/-- PEER_PTR_LO (R179). -/
def execPeerPtrLo (b : Byte) (s : State) : Answer :=
  .next { s with xfer := { s.xfer with pointer := setLowByte s.xfer.pointer b } }

/-- PEER_PTR_HI (R179). -/
def execPeerPtrHi (b : Byte) (s : State) : Answer :=
  .next { s with xfer := { s.xfer with pointer := setHighByte s.xfer.pointer b } }

/-- PEER_TGT_LO (R179). -/
def execPeerTgtLo (b : Byte) (s : State) : Answer :=
  .next { s with xfer := { s.xfer with target := setLowByte s.xfer.target b } }

/-- PEER_TGT_HI (R179). -/
def execPeerTgtHi (b : Byte) (s : State) : Answer :=
  .next { s with xfer := { s.xfer with target := setHighByte s.xfer.target b } }

/-- PEER_SRC_LO (R179). -/
def execPeerSrcLo (b : Byte) (s : State) : Answer :=
  .next { s with xfer := { s.xfer with source := setLowByte s.xfer.source b } }

/-- PEER_SRC_HI (R179). -/
def execPeerSrcHi (b : Byte) (s : State) : Answer :=
  .next { s with xfer := { s.xfer with source := setHighByte s.xfer.source b } }

end Sys2Proof.Machine
end

