-- ==== Sys2Proof/Machine/PointerLifecycle.lean ====
section
/-!
DEFINITION. The address write, the tick and the power call (42_pointer_lifecycle.md R150, R155, R157).
-/

namespace Sys2Proof.Machine

/-- AWR (R150): "State written: `addr` only." -/
def execAwr (a : Port) (s : State) : Answer := .next { s with addr := a }

/-- TICK (R155): `cnt <- (cnt + 1) mod 2^CNT_WIDTH`; it does not poll (R156). -/
def execTick (s : State) : Answer := .next { s with cnt := (s.cnt + 1) % 2 ^ s.params.cntWidth }

/-- POWER (R157); its argument is ignored (R158). -/
def execPower (_r : Bool) (s : State) : Answer := .next s.powerClear

end Sys2Proof.Machine
end

