-- ==== Sys2Proof/Machine/ReadPorts.lean ====
section
/-!
DEFINITION. Host data reads: one meaning per read port (40_read_ports.md R101 to R116). Each computes the port's byte and effect and
ends in `hostRead`, which returns the byte and advances the pointer (R100).
-/

namespace Sys2Proof.Machine

/-- RD.COMIN, port 0x0 (R101): dequeue a command byte; an empty queue returns 0xFF and changes nothing (D33). Draining the queue
clears `irq.cmd.pend` and polls. -/
def execRdComin (s : State) : Answer :=
  if s.cmd.empty then hostRead 0x0#4 0xFF#8 s
  else
    let d := s.cmd.front
    let q := s.cmd.pop s.params.cmdDepth
    let t : State := { s with cmd := q }
    hostRead 0x0#4 d (if q.empty then (t.setCmdPend false).poll else t)

/-- RD.IFSTAT, port 0x1 (R102). -/
def execRdIfstat (s : State) : Answer := hostRead 0x1#4 s.ifstat s

/-- RD.DBCL, port 0x2 (R103). -/
def execRdDbcl (s : State) : Answer := hostRead 0x2#4 (lengthLow s.xfer.length) s

/-- RD.DBCH, port 0x3 (R104). -/
def execRdDbch (s : State) : Answer := hostRead 0x3#4 (lengthHigh s.xfer.length) s

/-- RD.HEAD0, port 0x4 (R105). -/
def execRdHead0 (s : State) : Answer := hostRead 0x4#4 (s.headByte s.hdr.minute s.shdr.file) s

/-- RD.HEAD1, port 0x5 (R106). -/
def execRdHead1 (s : State) : Answer := hostRead 0x5#4 (s.headByte s.hdr.second s.shdr.channel) s

/-- RD.HEAD2, port 0x6 (R107). -/
def execRdHead2 (s : State) : Answer := hostRead 0x6#4 (s.headByte s.hdr.block s.shdr.submode) s

/-- RD.HEAD3, port 0x7 (R108). -/
def execRdHead3 (s : State) : Answer := hostRead 0x7#4 (s.headByte s.hdr.mode s.shdr.coding) s

/-- RD.PTL, port 0x8 (R109). -/
def execRdPtl (s : State) : Answer := hostRead 0x8#4 (lowByte s.xfer.pointer) s

/-- RD.PTH, port 0x9 (R110). -/
def execRdPth (s : State) : Answer := hostRead 0x9#4 (highByte s.xfer.pointer) s

/-- RD.WAL, port 0xA (R111). -/
def execRdWal (s : State) : Answer := hostRead 0xA#4 (lowByte s.xfer.target) s

/-- RD.WAH, port 0xB (R112). -/
def execRdWah (s : State) : Answer := hostRead 0xB#4 (highByte s.xfer.target) s

/-- RD.STAT0, port 0xC (R113). -/
def execRdStat0 (s : State) : Answer := hostRead 0xC#4 s.stat0 s

/-- RD.STAT1, port 0xD (R114). -/
def execRdStat1 (s : State) : Answer := hostRead 0xD#4 stat1 s

/-- RD.STAT2, port 0xE (R115). -/
def execRdStat2 (s : State) : Answer := hostRead 0xE#4 s.stat2 s

/-- RD.STAT3, port 0xF (R116): the read clears `irq.dec.pend` whether or not it was set, and always polls. -/
def execRdStat3 (s : State) : Answer := hostRead 0xF#4 stat3 (s.setDecPend false).poll

end Sys2Proof.Machine
end

