-- ==== Sys2Proof/Machine/WritePorts.lean ====
section
/-!
DEFINITION. Host data writes: one meaning per write port (41_write_ports.md R121 to R136). Each does the port's effect and ends in
`hostWrite`, which advances the pointer (R120), also where the effect is dropped or ignored.
-/

namespace Sys2Proof.Machine

/-- WR.SBOUT, port 0x0 (R121): dropped where gated, else appended after the eviction `STS_EVICT` asks for. -/
def execWrSbout (d : Byte) (s : State) : Answer := hostWrite 0x0#4 (if s.statusGated then s else s.statusAppend d)

/-- WR.IFCTRL, port 0x1 (R122): the eight fields, `poll()`, and the abort where `d[1] = 0`. -/
def execWrIfctrl (d : Byte) (s : State) : Answer :=
  let t := (s.loadIfctrl d).poll
  hostWrite 0x1#4 (if d[1] then t else t.abortTransfer)

/-- WR.DBCL, port 0x2 (R123). -/
def execWrDbcl (d : Byte) (s : State) : Answer :=
  hostWrite 0x2#4 { s with xfer := { s.xfer with length := setLengthLow s.xfer.length d } }

/-- WR.DBCH, port 0x3 (R124). -/
def execWrDbch (d : Byte) (s : State) : Answer :=
  hostWrite 0x3#4 { s with xfer := { s.xfer with length := setLengthHigh s.xfer.length d } }

/-- WR.DACL, port 0x4 (R125). -/
def execWrDacl (d : Byte) (s : State) : Answer :=
  hostWrite 0x4#4 { s with xfer := { s.xfer with source := setLowByte s.xfer.source d } }

/-- WR.DACH, port 0x5 (R126). -/
def execWrDach (d : Byte) (s : State) : Answer :=
  hostWrite 0x5#4 { s with xfer := { s.xfer with source := setHighByte s.xfer.source d } }

/-- WR.DTTRG, port 0x6 (R127): ignored entirely, but for the pointer, where `xfer.enable = 0`. The byte is ignored. -/
def execWrDttrg (_d : Byte) (s : State) : Answer := hostWrite 0x6#4 (if s.xfer.enable then s.triggerTransfer else s)

/-- WR.DTACK, port 0x7 (R128): clears `irq.xfer.pend` and polls (D21). The byte is ignored. -/
def execWrDtack (_d : Byte) (s : State) : Answer := hostWrite 0x7#4 (s.setXferPend false).poll

/-- WR.PTL, port 0x8 (R129). -/
def execWrPtl (d : Byte) (s : State) : Answer :=
  hostWrite 0x8#4 { s with xfer := { s.xfer with pointer := setLowByte s.xfer.pointer d } }

/-- WR.PTH, port 0x9 (R130). -/
def execWrPth (d : Byte) (s : State) : Answer :=
  hostWrite 0x9#4 { s with xfer := { s.xfer with pointer := setHighByte s.xfer.pointer d } }

/-- WR.CTRL0, port 0xA (R131). -/
def execWrCtrl0 (d : Byte) (s : State) : Answer := hostWrite 0xA#4 (s.loadCtrl0 d).decUpdate

/-- WR.CTRL1, port 0xB (R132). -/
def execWrCtrl1 (d : Byte) (s : State) : Answer := hostWrite 0xB#4 (s.loadCtrl1 d).decUpdate

/-- WR.WAL, port 0xC (R133): the target address, which reads back at port 0xA (R39). -/
def execWrWal (d : Byte) (s : State) : Answer :=
  hostWrite 0xC#4 { s with xfer := { s.xfer with target := setLowByte s.xfer.target d } }

/-- WR.WAH, port 0xD (R134). -/
def execWrWah (d : Byte) (s : State) : Answer :=
  hostWrite 0xD#4 { s with xfer := { s.xfer with target := setHighByte s.xfer.target d } }

/-- WR.CTRL2, port 0xE (R135): no `dec_update()` and no `poll()`. -/
def execWrCtrl2 (d : Byte) (s : State) : Answer := hostWrite 0xE#4 (s.loadCtrl2 d)

/-- WR.RESET, port 0xF (R136): the software reset. The byte is ignored. -/
def execWrReset (_d : Byte) (s : State) : Answer := hostWrite 0xF#4 s.softwareReset

end Sys2Proof.Machine
end

