-- ==== Sys2Proof/Machine/Dispatch.lean ====
section
/-!
DEFINITION. One arm per operation, in the opcode table's order: each is one call of the operation's meaning.
-/

namespace Sys2Proof.Machine

def exec (i : Instr) (s : State) : Host.Outcome State Fault Refusal :=
  match i with
  | .rdComin => Sys2Proof.Machine.execRdComin s
  | .rdIfstat => Sys2Proof.Machine.execRdIfstat s
  | .rdDbcl => Sys2Proof.Machine.execRdDbcl s
  | .rdDbch => Sys2Proof.Machine.execRdDbch s
  | .rdHead0 => Sys2Proof.Machine.execRdHead0 s
  | .rdHead1 => Sys2Proof.Machine.execRdHead1 s
  | .rdHead2 => Sys2Proof.Machine.execRdHead2 s
  | .rdHead3 => Sys2Proof.Machine.execRdHead3 s
  | .rdPtl => Sys2Proof.Machine.execRdPtl s
  | .rdPth => Sys2Proof.Machine.execRdPth s
  | .rdWal => Sys2Proof.Machine.execRdWal s
  | .rdWah => Sys2Proof.Machine.execRdWah s
  | .rdStat0 => Sys2Proof.Machine.execRdStat0 s
  | .rdStat1 => Sys2Proof.Machine.execRdStat1 s
  | .rdStat2 => Sys2Proof.Machine.execRdStat2 s
  | .rdStat3 => Sys2Proof.Machine.execRdStat3 s
  | .wrSbout d => Sys2Proof.Machine.execWrSbout d s
  | .wrIfctrl d => Sys2Proof.Machine.execWrIfctrl d s
  | .wrDbcl d => Sys2Proof.Machine.execWrDbcl d s
  | .wrDbch d => Sys2Proof.Machine.execWrDbch d s
  | .wrDacl d => Sys2Proof.Machine.execWrDacl d s
  | .wrDach d => Sys2Proof.Machine.execWrDach d s
  | .wrDttrg d => Sys2Proof.Machine.execWrDttrg d s
  | .wrDtack d => Sys2Proof.Machine.execWrDtack d s
  | .wrPtl d => Sys2Proof.Machine.execWrPtl d s
  | .wrPth d => Sys2Proof.Machine.execWrPth d s
  | .wrCtrl0 d => Sys2Proof.Machine.execWrCtrl0 d s
  | .wrCtrl1 d => Sys2Proof.Machine.execWrCtrl1 d s
  | .wrWal d => Sys2Proof.Machine.execWrWal d s
  | .wrWah d => Sys2Proof.Machine.execWrWah d s
  | .wrCtrl2 d => Sys2Proof.Machine.execWrCtrl2 d s
  | .wrReset d => Sys2Proof.Machine.execWrReset d s
  | .awr a => Sys2Proof.Machine.execAwr a s
  | .tick => Sys2Proof.Machine.execTick s
  | .power r => Sys2Proof.Machine.execPower r s
  | .peerCmdPush b => Sys2Proof.Machine.execPeerCmdPush b s
  | .peerStsPop => Sys2Proof.Machine.execPeerStsPop s
  | .peerSetPendDec => Sys2Proof.Machine.execPeerSetPendDec s
  | .peerSetPendXfer => Sys2Proof.Machine.execPeerSetPendXfer s
  | .peerSetPendCmd => Sys2Proof.Machine.execPeerSetPendCmd s
  | .peerHdr0 b => Sys2Proof.Machine.execPeerHdr0 b s
  | .peerHdr1 b => Sys2Proof.Machine.execPeerHdr1 b s
  | .peerHdr2 b => Sys2Proof.Machine.execPeerHdr2 b s
  | .peerHdr3 b => Sys2Proof.Machine.execPeerHdr3 b s
  | .peerShdr0 b => Sys2Proof.Machine.execPeerShdr0 b s
  | .peerShdr1 b => Sys2Proof.Machine.execPeerShdr1 b s
  | .peerShdr2 b => Sys2Proof.Machine.execPeerShdr2 b s
  | .peerShdr3 b => Sys2Proof.Machine.execPeerShdr3 b s
  | .peerStsFlags act busy => Sys2Proof.Machine.execPeerStsFlags act busy s
  | .peerXferFlags act busy ready done => Sys2Proof.Machine.execPeerXferFlags act busy ready done s
  | .peerDest n => Sys2Proof.Machine.execPeerDest n s
  | .peerLenLo b => Sys2Proof.Machine.execPeerLenLo b s
  | .peerLenHi b => Sys2Proof.Machine.execPeerLenHi b s
  | .peerPtrLo b => Sys2Proof.Machine.execPeerPtrLo b s
  | .peerPtrHi b => Sys2Proof.Machine.execPeerPtrHi b s
  | .peerTgtLo b => Sys2Proof.Machine.execPeerTgtLo b s
  | .peerTgtHi b => Sys2Proof.Machine.execPeerTgtHi b s
  | .peerSrcLo b => Sys2Proof.Machine.execPeerSrcLo b s
  | .peerSrcHi b => Sys2Proof.Machine.execPeerSrcHi b s

end Sys2Proof.Machine
end

