-- ==== Sys2Proof/Machine/Step.lean ====
section
/-!
DEFINITION. One step: the next transaction word arrives, is decoded with the pointer (30_encoding.md R85) and its operation runs as one
atomic transition (00_scope.md R5).
-/

namespace Sys2Proof.Machine

/-- One step. A word outside the encoding is refused by name (R86); with no word there the core keeps its state (log 2). -/
def step (s : State) : Host.Outcome State Fault Refusal :=
  match s.fetch with
  | none => s.idle
  | some (d, t) =>
    match decode d with
    | .instr i => exec i t
    | .reject r => .refused (.invalidWord r)

/-- `s` with the instruction whose bits are `w`, numbered as spec/opcode_table.json numbers them, as the next operation to arrive
(log 2). -/
def State.withFetchWord (s : State) (nbits w : Nat) : State := s.present (BitVec.ofNat 20 (w % 2 ^ nbits))

end Sys2Proof.Machine
end

