-- ==== Sys2Proof/Safety.lean ====
section
/-!
DEFINITION. The terms the claims use: a queue's well-formedness and its contents, the invariant of the machine, and the fields that
what comes out does not depend on.
-/

namespace Sys2Proof

/-! ## Operations by what they touch -/

/-- What first-in-first-out order (R26) makes of the unread command bytes in one operation: the host drains them at read port 0 (R101),
the peer appends (R171), both resets empty the queue (R136, R157), and nothing else touches them. -/
def Instr.cmdAfter (q : List Byte) : Instr → List Byte
  | .rdComin => q.tail
  | .peerCmdPush b => q ++ [b]
  | .wrReset _ => []
  | .power _ => []
  | _ => q

/-- The unread status bytes after an accepted status write: `STS_EVICT` says at which number of unread bytes the oldest goes (R7, R121). -/
def stsAppended (p : Params) (q : List Byte) (d : Byte) : List Byte :=
  (if q.length = (match p.stsEvict with | .one => 1 | .full => p.stsDepth) then q.tail else q) ++ [d]

/-- What one operation makes of the unread status bytes: the host appends unless gated (R121), the peer takes the oldest (R172), both
resets empty the queue (R136, R157), and nothing else touches them. -/
def Instr.stsAfter (p : Params) (gated : Bool) (q : List Byte) : Instr → List Byte
  | .wrSbout d => if gated then q else stsAppended p q d
  | .peerStsPop => q.tail
  | .wrReset _ => []
  | .power _ => []
  | _ => q

/-- The operations that write the interrupt line: the poll points of R192 other than the draining read of port 0, which polls only
where it empties the queue, and the two resets, which drop the line (R35). -/
def Instr.writesLine : Instr → Bool
  | .rdStat3 => true
  | .wrIfctrl _ => true
  | .wrDtack _ => true
  | .wrReset _ => true
  | .power _ => true
  | .peerSetPendDec => true
  | .peerSetPendXfer => true
  | .peerSetPendCmd => true
  | _ => false

/-- A host operation: a data read, a data write or an address write (R5). -/
def Instr.isHost : Instr → Bool
  | .awr _ => true
  | i => i.port?.isSome

/-- A peer action (R170, R180): neither a host operation nor the tick nor power. -/
def Instr.isPeer : Instr → Bool
  | .tick => false
  | .power _ => false
  | i => !i.isHost

end Sys2Proof

namespace Sys2Proof.Machine

/-! ## Queues -/

/-- The queue invariant of 10_state.md R25, with the bounds of R22 and R23: `DEPTH` slots, both indices below `DEPTH`, and an empty
queue's indices are equal. -/
abbrev Queue.Wf (depth : Nat) (q : Queue) : Prop :=
  q.fifo.length = depth ∧ q.read < depth ∧ q.write < depth ∧ (q.empty = true → q.read = q.write)

/-- The unread bytes, the oldest first: `count(q)` bytes from the read index on, wrapping at the depth (R26, R27). -/
def Queue.contents (depth : Nat) (q : Queue) : List Byte :=
  (List.range (q.count depth)).map fun i => q.fifo.getD ((q.read + i) % depth) 0#8

/-- The unread command bytes. -/
def State.cmdContents (s : State) : List Byte := s.cmd.contents s.params.cmdDepth

/-- The unread status bytes. -/
def State.stsContents (s : State) : List Byte := s.sts.toQueue.contents s.params.stsDepth

/-! ## The invariant -/

/-- The decoder invariant of R33. -/
abbrev State.DecoderDerived (s : State) : Prop :=
  s.dec.form = (s.ctl.formrq && s.ctl.autorq) ∧ s.dec.mode = s.ctl.modrq

/-- "In every state `irq_out = 1` implies `agg = 1`" (60_exceptions.md R193). -/
abbrev State.LineJustified (s : State) : Prop := s.irqOut = true → s.aggregate = true

/-- `irq_out = agg`, which R193 gives for every state where no software reset has come after the latest poll or power. -/
abbrev State.LineFollows (s : State) : Prop := s.irqOut = s.aggregate

/-- Under `STS_EVICT = ONE` the status queue never holds more than one unread byte (R121, derived there). -/
abbrev State.StatusBounded (s : State) : Prop :=
  s.params.stsEvict = .one → s.sts.toQueue.count s.params.stsDepth ≤ 1

/-- The invariant of the machine: legal parameters (R7), both queues well formed (R25), the derived decoder bits (R33), the counter
inside its width (R37), no line without a source (R193). The pointer's bound (R153) is its type. -/
structure State.Inv (s : State) : Prop where
  legal : s.params.Legal
  cmd : s.cmd.Wf s.params.cmdDepth
  sts : s.sts.toQueue.Wf s.params.stsDepth
  decoder : s.DecoderDerived
  counter : s.cnt < 2 ^ s.params.cntWidth
  line : s.LineJustified

/-! ## What the host sees, and the fields it does not depend on -/

/-- The data read `r` on `s` returns the byte `b` to the host (R10, R100). -/
abbrev State.HostReads (s : State) (r : Instr) (b : Byte) : Prop := ∃ u, exec r s = .next u ∧ u.hostData = some b

/-- The state with these put to 0: `sts.enable` (R24), `xfer.wait` (R29), `xfer.source` (R28), `xfer.dest`, `xfer.ready` and `xfer.done`
(R30), all control bits but `ctl.head`, `ctl.formrq`, `ctl.modrq` and `ctl.autorq` (R31), and the counter (R37). No read port shows any of
them. Rules read only `xfer.dest` (R127, for `xfer.ready`) and `cnt` (R155, for `cnt`) of them. -/
def State.hide (s : State) : State :=
  { s with
    sts := { s.sts with enable := false }
    xfer := { s.xfer with wait := false, source := 0#16, dest := 0#2, ready := false, done := false }
    ctl := { s.ctl with prq := false, qrq := false, wrrq := false, eramrq := false, e01rq := false, mbckrq := false,
                        cowren := false, dscren := false, syden := false, syien := false, stentrg := false, stenctl := false,
                        eprmrq := false, cmdbrk := false }
    cnt := 0 }

/-- An answer with its next state hidden (`State.hide`). -/
def Answer.hide : Answer → Answer
  | .next s => .next s.hide
  | .fault r => .fault r
  | .refused r => .refused r

end Sys2Proof.Machine
end

