-- ==== Sys2Proof/Certificates/Slice0/Obligations.lean ====
section
/-!
DEFINITION. The statements for the provers. Each docstring names the rule of spec/ it formalises; "log n" is notes/assumptions/n.md and
"D n" a row of spec/92_eei_decisions.md (a choice the spec itself makes). A record update `{ s with … }` in a conclusion is also the
frame: every field it does not name is unchanged. The core has no memory (R62), so no statement speaks of stored bytes.
-/

open Sys2Proof Sys2Proof.Machine

/-! ## Encoding and decoding -/

/-- Every well-formed operation decodes from its own word, with every operand at every value, whatever the pointer is (R80 to R88; the
encoding is the spec's decision D2). -/
def Obligations.DecodeOfEncodeIsTheOperation : Prop :=
  ∀ (i : Instr) (addr : Port), i.WellFormed → decode (encodeAt addr i) = .instr i

/-- A word that decodes is the word of the operation it decodes to, so no bit of a valid word is dropped (R85, R86; D2, D30). -/
def Obligations.EncodeOfDecodeIsTheWord : Prop :=
  ∀ (d : DWord) (i : Instr), decode d = .instr i → i.WellFormed ∧ encodeAt (d.extractLsb' 16 4) i = d

/-- "Exactly one row matches each valid D" (R85): the row of the operation it decodes to; a refused word matches no row (R86; D2,
D30). -/
def Obligations.ValidWordSelectsExactlyItsRow : Prop :=
  ∀ d : DWord,
    (∀ i, decode d = .instr i → i.row ∈ opcodeTable ∧ ∀ r ∈ opcodeTable, r.Selects d ↔ r = i.row) ∧
    (∀ e, decode d = .reject e → ∀ r ∈ opcodeTable, ¬ r.Selects d)

/-- Words written out from the encoding tables of 30_encoding.md and 95_test_vectors.md section 2.6, one or more of each family, and
the refused words of that section. -/
def Obligations.WrittenOutWordsDecode : Prop :=
  decode 0x00000#20 = .instr .rdComin ∧ decode 0xF0000#20 = .instr .rdStat3 ∧
  decode 0x14080#20 = .instr (.wrIfctrl 0x80#8) ∧ decode 0xA4090#20 = .instr (.wrCtrl0 0x90#8) ∧
  decode 0x7800C#20 = .instr (.awr 12#4) ∧ decode 0x9C000#20 = .instr .tick ∧ decode 0x3C101#20 = .instr (.power true) ∧
  decode 0x0C212#20 = .instr (.peerCmdPush 0x12#8) ∧ decode 0x5C402#20 = .instr .peerSetPendCmd ∧
  decode 0x0D802#20 = .instr (.peerStsFlags false true) ∧ decode 0x6DA03#20 = .instr (.peerDest 3#2) ∧
  decode 0x0E2AB#20 = .instr (.peerSrcHi 0xAB#8) ∧
  decode 0x00001#20 = .reject .reservedBits ∧ decode 0x04100#20 = .reject .reservedBits ∧
  decode 0x08010#20 = .reject .reservedBits ∧ decode 0x0C102#20 = .reject .reservedBits ∧
  decode 0x0C403#20 = .reject .unassignedPendSource ∧ decode 0x0C500#20 = .reject (.unassignedSysop 0x05#6) ∧
  decode 0x0DC10#20 = .reject .reservedBits ∧ decode 0x0E300#20 = .reject (.unassignedSysop 0x23#6)

/-! ## One step -/

/-- A step takes the next word, decodes it with the pointer as it is (R85) and is the decoded operation on the state without the word.
That words wait in `inbox` is the model's choice (log 1). -/
def Obligations.StepRunsTheDecodedOperation : Prop :=
  ∀ (s : State) (w : TWord) (rest : List TWord) (i : Instr),
    s.inbox = w :: rest → decode (s.addr ++ w) = .instr i → step s = exec i { s with inbox := rest }

/-- "An invalid word is refused: the model has no step for it and records the refusal by name." (R86, decision D30.) -/
def Obligations.StepRefusesInvalidWordsByName : Prop :=
  ∀ (s : State) (w : TWord) (rest : List TWord) (e : Reject),
    s.inbox = w :: rest → decode (s.addr ++ w) = .reject e → step s = .refused (.invalidWord e)

/-- With no operation there, a step keeps the state. This is the model's own (log 2). -/
def Obligations.StepWithNoOperationKeepsTheState : Prop :=
  ∀ s : State, s.inbox = [] → step s = .next s

/-- "The only refusals in the model are transaction words outside the spec's encoding and peer pushes into a full queue" and nothing
faults (R190): every step answers a next state, or refuses for one of these two reasons, under its name. -/
def Obligations.NoFaultAndOnlyTwoRefusals : Prop :=
  ∀ s : State,
    (∃ t, step s = .next t) ∨
    (∃ w rest e, s.inbox = w :: rest ∧ decode (s.addr ++ w) = .reject e ∧ step s = .refused (.invalidWord e)) ∨
    (∃ w rest b, s.inbox = w :: rest ∧ decode (s.addr ++ w) = .instr (.peerCmdPush b) ∧
      s.params.cmdDepth ≤ s.cmd.count s.params.cmdDepth ∧ step s = .refused .commandQueueFull)

/-! ## Read ports -/

/-- IFSTAT, bit by bit (R102); the read changes nothing but the pointer. The places of bits 0 to 4 are the spec's decision D8 (R41,
log 5). -/
def Obligations.ReadInterfaceStatus : Prop :=
  ∀ s : State, ∃ d : Byte,
    exec .rdIfstat s = .next { s with addr := 2#4, hostData := some d } ∧
    d[0] = !s.sts.active ∧ d[1] = !s.xfer.active ∧ d[2] = !s.sts.busy ∧ d[3] = !s.xfer.busy ∧
    d[4] = true ∧ d[5] = !s.irq.dec.pend ∧ d[6] = !s.irq.xfer.pend ∧ d[7] = !s.irq.cmd.pend

/-- R103, R109 to R112: the low byte of the length and both bytes of the block pointer and of the target address; the read changes
nothing but the pointer. -/
def Obligations.ReadLengthPointerAndTargetBytes : Prop :=
  ∀ s : State,
    exec .rdDbcl s = .next { s with addr := 3#4, hostData := some (s.xfer.length.extractLsb' 0 8) } ∧
    exec .rdPtl s = .next { s with addr := 9#4, hostData := some (s.xfer.pointer.extractLsb' 0 8) } ∧
    exec .rdPth s = .next { s with addr := 10#4, hostData := some (s.xfer.pointer.extractLsb' 8 8) } ∧
    exec .rdWal s = .next { s with addr := 11#4, hostData := some (s.xfer.target.extractLsb' 0 8) } ∧
    exec .rdWah s = .next { s with addr := 12#4, hostData := some (s.xfer.target.extractLsb' 8 8) }

/-- DBCH reads the high nibble of the length under four zeros (the zeros are the spec's decision D16); the read changes nothing but the
pointer. -/
def Obligations.ReadLengthHighNibble : Prop :=
  ∀ s : State, ∃ d : Byte,
    exec .rdDbch s = .next { s with addr := 4#4, hostData := some d } ∧
    d.extractLsb' 0 4 = s.xfer.length.extractLsb' 8 4 ∧ d.extractLsb' 4 4 = 0#4

/-- Ports 4 to 7 read the subheader where `ctl.head = 1`, else the header (polarity and order are the spec's decision D17); the read
changes nothing but the pointer. -/
def Obligations.ReadHeaderOrSubheader : Prop :=
  ∀ s : State,
    exec .rdHead0 s = .next { s with addr := 5#4, hostData := some (if s.ctl.head = true then s.shdr.file else s.hdr.minute) } ∧
    exec .rdHead1 s = .next { s with addr := 6#4, hostData := some (if s.ctl.head = true then s.shdr.channel else s.hdr.second) } ∧
    exec .rdHead2 s = .next { s with addr := 7#4, hostData := some (if s.ctl.head = true then s.shdr.submode else s.hdr.block) } ∧
    exec .rdHead3 s = .next { s with addr := 8#4, hostData := some (if s.ctl.head = true then s.shdr.coding else s.hdr.mode) }

/-- R114: STAT1 is 0x00 in every state; the read changes nothing but the pointer. -/
def Obligations.ReadStatusOneIsZero : Prop :=
  ∀ s : State, exec .rdStat1 s = .next { s with addr := 14#4, hostData := some 0x00#8 }

/-- STAT0 shows `dec.enable` in bit 7, STAT2 shows `dec.form` in bit 2 and `dec.mode` in bit 3, and every other bit is 0 (R113, R115;
the places of the three bits are the spec's decisions D13, D14, log 5); the reads change nothing but the pointer. -/
def Obligations.ReadStatusZeroAndTwo : Prop :=
  ∀ s : State,
    exec .rdStat0 s = .next { s with addr := 13#4, hostData := some (if s.dec.enable = true then 0x80#8 else 0x00#8) } ∧
    exec .rdStat2 s = .next { s with
      addr := 15#4
      hostData := some ((if s.dec.mode = true then 0x08#8 else 0x00#8) ||| (if s.dec.form = true then 0x04#8 else 0x00#8)) }

/-- STAT3 reads 0x80 (the places of its bits are the spec's decision D15, log 5), clears `irq.dec.pend` whether or not it was set, polls,
and leaves the pointer at 0 (R116). -/
def Obligations.ReadStatusByteThreeAcknowledgesDecoder : Prop :=
  ∀ s : State,
    exec .rdStat3 s = .next { s with
      addr := 0#4
      hostData := some 0x80#8
      irq := { s.irq with dec := { s.irq.dec with pend := false } }
      irqOut := (s.irq.xfer.en && s.irq.xfer.pend) || (s.irq.cmd.en && s.irq.cmd.pend) }

/-- COMIN on an empty queue returns 0xFF and changes nothing else (that the pending flag is kept and no poll runs is the spec's decision
D33). -/
def Obligations.ReadEmptyCommandQueue : Prop :=
  ∀ s : State, s.cmd.empty = true → exec .rdComin s = .next { s with addr := 0#4, hostData := some 0xFF#8 }

/-- R101 on a queue that holds a byte: the oldest unread byte is returned and leaves the queue; taking the last one clears
`irq.cmd.pend` and polls, and a read that leaves bytes behind touches no interrupt state; nothing else changes. -/
def Obligations.ReadCommandByteDequeuesOldest : Prop :=
  ∀ s : State, s.cmd.Wf s.params.cmdDepth → s.cmd.empty = false →
    ∃ (t : State) (b : Byte) (rest : List Byte),
      exec .rdComin s = .next t ∧ s.cmdContents = b :: rest ∧ t.cmdContents = rest ∧
      t = { s with
        addr := 0#4
        hostData := some b
        cmd := { s.cmd with read := (s.cmd.read + 1) % s.params.cmdDepth, empty := rest.isEmpty }
        irq := { s.irq with cmd := { s.irq.cmd with pend := !rest.isEmpty && s.irq.cmd.pend } }
        irqOut := if rest = [] then (s.irq.dec.en && s.irq.dec.pend) || (s.irq.xfer.en && s.irq.xfer.pend) else s.irqOut }

/-! ## Write ports -/

/-- A host status write is dropped, with nothing changed, where `sts.wait = 1` and `xfer.busy = 1`; the pointer stays at 0 (which wait
flag gates is the spec's decision D7). -/
def Obligations.GatedStatusWriteIsDropped : Prop :=
  ∀ (s : State) (d : Byte), s.sts.wait = true → s.xfer.busy = true → exec (.wrSbout d) s = .next { s with addr := 0#4 }

/-- A host status write that is not gated appends its byte after the eviction that `STS_EVICT` asks for (decisions D6, D7), stores it
at the write index and sets `sts.active` and `sts.busy`; nothing else changes. -/
def Obligations.StatusWriteAppends : Prop :=
  ∀ (s : State) (d : Byte), s.params.Legal → s.sts.toQueue.Wf s.params.stsDepth → s.StatusBounded →
    (s.sts.wait = false ∨ s.xfer.busy = false) →
    ∃ t : State, exec (.wrSbout d) s = .next t ∧
      t.stsContents = stsAppended s.params s.stsContents d ∧
      t.sts.fifo = s.sts.fifo.set s.sts.write d ∧ t.sts.write = (s.sts.write + 1) % s.params.stsDepth ∧
      t.sts.empty = false ∧ t.sts.active = true ∧ t.sts.busy = true ∧
      t.sts.enable = s.sts.enable ∧ t.sts.wait = s.sts.wait ∧
      t = { s with addr := 0#4, sts := t.sts }

/-- IFCTRL writes its eight fields (layout: decision D9), polls with the new enables, and clears `xfer.active` and `xfer.busy` where
bit 1 is 0, whatever the old enable was (decision D25); nothing else changes. -/
def Obligations.InterfaceControlWrite : Prop :=
  ∀ (s : State) (d : Byte),
    exec (.wrIfctrl d) s = .next { s with
      addr := 2#4
      sts := { s.sts with enable := d[0], wait := !d[2] }
      xfer := { s.xfer with enable := d[1], wait := !d[3], active := d[1] && s.xfer.active, busy := d[1] && s.xfer.busy }
      ctl := { s.ctl with cmdbrk := !d[4] }
      irq := { dec := { en := d[5], pend := s.irq.dec.pend }
               xfer := { en := d[6], pend := s.irq.xfer.pend }
               cmd := { en := d[7], pend := s.irq.cmd.pend } }
      irqOut := (d[5] && s.irq.dec.pend) || (d[6] && s.irq.xfer.pend) || (d[7] && s.irq.cmd.pend) }

/-- R123, R125, R126, R129, R130, R133, R134: each byte write replaces its own byte of its field, keeps the other bits of the field, and
changes nothing else but the pointer. -/
def Obligations.ByteWritesReplaceTheirLane : Prop :=
  ∀ (s : State) (d : Byte),
    exec (.wrDbcl d) s = .next { s with addr := 3#4, xfer := { s.xfer with length := s.xfer.length.extractLsb' 8 4 ++ d } } ∧
    exec (.wrDacl d) s = .next { s with addr := 5#4, xfer := { s.xfer with source := s.xfer.source.extractLsb' 8 8 ++ d } } ∧
    exec (.wrDach d) s = .next { s with addr := 6#4, xfer := { s.xfer with source := d ++ s.xfer.source.extractLsb' 0 8 } } ∧
    exec (.wrPtl d) s = .next { s with addr := 9#4, xfer := { s.xfer with pointer := s.xfer.pointer.extractLsb' 8 8 ++ d } } ∧
    exec (.wrPth d) s = .next { s with addr := 10#4, xfer := { s.xfer with pointer := d ++ s.xfer.pointer.extractLsb' 0 8 } } ∧
    exec (.wrWal d) s = .next { s with addr := 13#4, xfer := { s.xfer with target := s.xfer.target.extractLsb' 8 8 ++ d } } ∧
    exec (.wrWah d) s = .next { s with addr := 14#4, xfer := { s.xfer with target := d ++ s.xfer.target.extractLsb' 0 8 } }

/-- DBCH writes the high nibble of the length from `d[3:0]` and ignores `d[7:4]` (decision D16); nothing else changes but the
pointer. -/
def Obligations.LengthHighWrite : Prop :=
  ∀ (s : State) (d : Byte),
    exec (.wrDbch d) s = .next { s with
      addr := 4#4
      xfer := { s.xfer with length := d.extractLsb' 0 4 ++ s.xfer.length.extractLsb' 0 8 } }

/-- The trigger is ignored, but for the pointer, where `xfer.enable = 0`; enabled, it sets active and busy, clears `xfer.done` and sets
`xfer.ready` exactly where the selector is one of `CPU_READ_DESTS` (which flag, and which selectors, is the spec's decision D18). -/
def Obligations.TransferTrigger : Prop :=
  ∀ (s : State) (d : Byte),
    (s.xfer.enable = false → exec (.wrDttrg d) s = .next { s with addr := 7#4 }) ∧
    (s.xfer.enable = true → exec (.wrDttrg d) s = .next { s with
      addr := 7#4
      xfer := { s.xfer with active := true, busy := true, done := false, ready := decide (s.xfer.dest ∈ s.params.cpuReadDests) } })

/-- DTACK clears `irq.xfer.pend` and polls in the same step (the poll is the spec's decision D21); nothing else changes but the
pointer. -/
def Obligations.TransferAcknowledge : Prop :=
  ∀ (s : State) (d : Byte),
    exec (.wrDtack d) s = .next { s with
      addr := 8#4
      irq := { s.irq with xfer := { s.irq.xfer with pend := false } }
      irqOut := (s.irq.dec.en && s.irq.dec.pend) || (s.irq.cmd.en && s.irq.cmd.pend) }

/-- CTRL0 and CTRL1 write their bits and the derived decoder bits at once; CTRL0 bit 6 is ignored; nothing else changes but the pointer
(R131, R132; the bits' places are the spec's decisions D10, D11, log 5). -/
def Obligations.ControlZeroAndOneWrites : Prop :=
  ∀ (s : State) (d : Byte),
    exec (.wrCtrl0 d) s = .next { s with
      addr := 11#4
      ctl := { s.ctl with prq := d[0], qrq := d[1], wrrq := d[2], eramrq := d[3], autorq := d[4], e01rq := d[5] }
      dec := { enable := d[7], mode := s.ctl.modrq, form := s.ctl.formrq && d[4] } } ∧
    exec (.wrCtrl1 d) s = .next { s with
      addr := 12#4
      ctl := { s.ctl with head := d[0], mbckrq := d[1], formrq := d[2], modrq := d[3], cowren := d[4], dscren := d[5],
                          syden := d[6], syien := d[7] }
      dec := { enable := s.dec.enable, mode := d[3], form := d[2] && s.ctl.autorq } }

/-- CTRL2 writes three bits and ignores bits 3 to 7; no `dec_update()` and no `poll()` (R135; the bits' places are the spec's decision
D12, log 5). -/
def Obligations.ControlTwoWrite : Prop :=
  ∀ (s : State) (d : Byte),
    exec (.wrCtrl2 d) s = .next { s with
      addr := 15#4
      ctl := { s.ctl with stentrg := d[0], stenctl := d[1], eprmrq := d[2] } }

/-- The software reset: the line drops, both queues are emptied and zeroed, the transfer fields and flags and both header caches are
zeroed, and the pointer ends at 0. The control bits, the decoder, the interrupt flags, `xfer.dest`, the one-shot flags and the counter
survive (decisions D19, D22; buffer bytes D29). -/
def Obligations.SoftwareResetEffect : Prop :=
  ∀ (s : State) (d : Byte),
    exec (.wrReset d) s = .next { s with
      addr := 0#4
      irqOut := false
      cmd := (State.powerOn s.params).cmd
      sts := (State.powerOn s.params).sts
      xfer := { (State.powerOn s.params).xfer with dest := s.xfer.dest, ready := s.xfer.ready, done := s.xfer.done }
      hdr := (State.powerOn s.params).hdr
      shdr := (State.powerOn s.params).shdr }

/-- After a software reset the queues read as after power and the pending flags still show (70_reset_and_hazards.md R222, derived
there; D22). -/
def Obligations.ReadsAfterSoftwareReset : Prop :=
  ∀ (s : State) (d : Byte), ∃ (t : State) (b : Byte),
    exec (.wrReset d) s = .next t ∧ t.stsContents = [] ∧ t.HostReads .rdComin 0xFF#8 ∧ t.HostReads .rdIfstat b ∧ b.extractLsb' 0 5 = 0b11111#5 ∧
    b[5] = !s.irq.dec.pend ∧ b[6] = !s.irq.xfer.pend ∧ b[7] = !s.irq.cmd.pend

/-- R39: writing both bytes of the target at ports 12 and 13 and reading ports 10 and 11 gives them back, while reading ports 12 and 13
gives the status bytes, which are what they were before those writes; the block pointer is written and read at ports 8 and 9. -/
def Obligations.TargetAndPointerReadBack : Prop :=
  ∀ (s : State) (lo hi : Byte),
    (∃ t u : State, exec (.wrWal lo) s = .next t ∧ exec (.wrWah hi) t = .next u ∧ u.xfer.target = hi ++ lo ∧
      u.HostReads .rdWal lo ∧ u.HostReads .rdWah hi ∧
      ∃ b0 b1 : Byte, u.HostReads .rdStat0 b0 ∧ s.HostReads .rdStat0 b0 ∧ u.HostReads .rdStat1 b1 ∧ s.HostReads .rdStat1 b1) ∧
    (∃ t u : State, exec (.wrPtl lo) s = .next t ∧ exec (.wrPth hi) t = .next u ∧ u.xfer.pointer = hi ++ lo ∧
      u.HostReads .rdPtl lo ∧ u.HostReads .rdPth hi)

/-! ## Pointer, tick and power -/

/-- AWR writes `addr` only, with any value (the operation is the spec's decision D1). -/
def Obligations.AddressWriteLoadsPointer : Prop :=
  ∀ (s : State) (a : Port), exec (.awr a) s = .next { s with addr := a }

/-- The tick adds one to the counter modulo `2 ^ CNT_WIDTH` and changes nothing else (width and wrap are the spec's decision D23). -/
def Obligations.TickAdvancesCounter : Prop :=
  ∀ s : State, exec .tick s = .next { s with cnt := (s.cnt + 1) % 2 ^ s.params.cntWidth }

/-- Power leaves every state element as at creation with the same parameters (R157; that it clears everything is the spec's decision
D20). The inbox and the bytes already given back are the model's own and stay (logs 1, 3). -/
def Obligations.PowerRestoresCreation : Prop :=
  ∀ (s : State) (r : Bool),
    exec (.power r) s = .next { State.powerOn s.params with inbox := s.inbox, hostData := s.hostData, peerData := s.peerData }

/-- R158: the argument of the power call makes no difference. -/
def Obligations.PowerIgnoresItsArgument : Prop :=
  ∀ s : State, exec (.power false) s = exec (.power true) s

/-- After power the pointer is 0, every enable is 0, the line is 0, both queues are empty, the decoder is disabled, and ports 0 and 1
read 0xFF (R221; that power clears the enables is the spec's decision D20, log 5). -/
def Obligations.StateAfterPower : Prop :=
  ∀ (s : State) (r : Bool), ∃ t : State,
    exec (.power r) s = .next t ∧ t.addr = 0#4 ∧
    t.irq.dec.en = false ∧ t.irq.xfer.en = false ∧ t.irq.cmd.en = false ∧ t.irqOut = false ∧
    t.cmdContents = [] ∧ t.stsContents = [] ∧ t.dec.enable = false ∧
    t.HostReads .rdComin 0xFF#8 ∧ t.HostReads .rdIfstat 0xFF#8

/-! ## Peer actions -/

/-- A peer push into a queue that is not full appends its byte and changes nothing else; it does not set `irq.cmd.pend` (R171; the
precondition is the spec's decision D26). -/
def Obligations.PeerPushAppends : Prop :=
  ∀ (s : State) (b : Byte), s.cmd.Wf s.params.cmdDepth → s.cmd.count s.params.cmdDepth < s.params.cmdDepth →
    ∃ t : State, exec (.peerCmdPush b) s = .next t ∧ t.cmdContents = s.cmdContents ++ [b] ∧
      t = { s with cmd := { s.cmd with
        fifo := s.cmd.fifo.set s.cmd.write b, write := (s.cmd.write + 1) % s.params.cmdDepth, empty := false } }

/-- A peer push into a full queue has no step: it is refused by name (decision D26, log 9). -/
def Obligations.PeerPushIntoFullQueueIsRefused : Prop :=
  ∀ (s : State) (b : Byte), s.cmdContents.length = s.params.cmdDepth → exec (.peerCmdPush b) s = .refused .commandQueueFull

/-- The peer's pop gives nothing from an empty queue and changes no state; else it gives the oldest status byte, which leaves the queue,
and `sts.active` and `sts.busy` stay (R172; D3). -/
def Obligations.PeerPopTakesOldest : Prop :=
  ∀ s : State, s.sts.toQueue.Wf s.params.stsDepth →
    (s.sts.empty = true → exec .peerStsPop s = .next { s with peerData := none }) ∧
    (s.sts.empty = false → ∃ (t : State) (b : Byte) (rest : List Byte),
      exec .peerStsPop s = .next t ∧ s.stsContents = b :: rest ∧ t.stsContents = rest ∧
      t = { s with
        peerData := some b
        sts := { s.sts with read := (s.sts.read + 1) % s.params.stsDepth, empty := rest.isEmpty } })

/-- The peer sets one pending flag and the line is polled; nothing else changes (R173; the poll is the spec's decision D27). -/
def Obligations.PeerSetsPendingAndPolls : Prop :=
  ∀ s : State,
    exec .peerSetPendDec s = .next { s with
      irq := { s.irq with dec := { s.irq.dec with pend := true } }
      irqOut := s.irq.dec.en || (s.irq.xfer.en && s.irq.xfer.pend) || (s.irq.cmd.en && s.irq.cmd.pend) } ∧
    exec .peerSetPendXfer s = .next { s with
      irq := { s.irq with xfer := { s.irq.xfer with pend := true } }
      irqOut := (s.irq.dec.en && s.irq.dec.pend) || s.irq.xfer.en || (s.irq.cmd.en && s.irq.cmd.pend) } ∧
    exec .peerSetPendCmd s = .next { s with
      irq := { s.irq with cmd := { s.irq.cmd with pend := true } }
      irqOut := (s.irq.dec.en && s.irq.dec.pend) || (s.irq.xfer.en && s.irq.xfer.pend) || s.irq.cmd.en }

/-- Each action writes one header or subheader byte and nothing else, and the host reads that byte at port 4 + i when `ctl.head` selects
it (R174, R175; the actions and the polarity are the spec's decisions D3, D17, log 5). -/
def Obligations.PeerWritesHeaders : Prop :=
  ∀ (s : State) (b : Byte),
    (∃ t, exec (.peerHdr0 b) s = .next t ∧ t = { s with hdr := { s.hdr with minute := b } } ∧
      (s.ctl.head = false → t.HostReads .rdHead0 b)) ∧
    (∃ t, exec (.peerHdr1 b) s = .next t ∧ t = { s with hdr := { s.hdr with second := b } } ∧
      (s.ctl.head = false → t.HostReads .rdHead1 b)) ∧
    (∃ t, exec (.peerHdr2 b) s = .next t ∧ t = { s with hdr := { s.hdr with block := b } } ∧
      (s.ctl.head = false → t.HostReads .rdHead2 b)) ∧
    (∃ t, exec (.peerHdr3 b) s = .next t ∧ t = { s with hdr := { s.hdr with mode := b } } ∧
      (s.ctl.head = false → t.HostReads .rdHead3 b)) ∧
    (∃ t, exec (.peerShdr0 b) s = .next t ∧ t = { s with shdr := { s.shdr with file := b } } ∧
      (s.ctl.head = true → t.HostReads .rdHead0 b)) ∧
    (∃ t, exec (.peerShdr1 b) s = .next t ∧ t = { s with shdr := { s.shdr with channel := b } } ∧
      (s.ctl.head = true → t.HostReads .rdHead1 b)) ∧
    (∃ t, exec (.peerShdr2 b) s = .next t ∧ t = { s with shdr := { s.shdr with submode := b } } ∧
      (s.ctl.head = true → t.HostReads .rdHead2 b)) ∧
    (∃ t, exec (.peerShdr3 b) s = .next t ∧ t = { s with shdr := { s.shdr with coding := b } } ∧
      (s.ctl.head = true → t.HostReads .rdHead3 b))

/-- The peer writes the status flags, the transfer flags and the selector, and nothing else (R176 to R178; these actions are the spec's
decision D3). -/
def Obligations.PeerWritesFlagsAndSelector : Prop :=
  ∀ (s : State) (act busy ready done : Bool) (n : Dest),
    exec (.peerStsFlags act busy) s = .next { s with sts := { s.sts with active := act, busy := busy } } ∧
    exec (.peerXferFlags act busy ready done) s = .next { s with
      xfer := { s.xfer with active := act, busy := busy, ready := ready, done := done } } ∧
    exec (.peerDest n) s = .next { s with xfer := { s.xfer with dest := n } }

/-- Each action writes its byte or nibble of one transfer field, keeps the field's other bits, and changes nothing else (R179; decision
D3). -/
def Obligations.PeerWritesTransferFields : Prop :=
  ∀ (s : State) (b : Byte),
    exec (.peerLenLo b) s = .next { s with xfer := { s.xfer with length := s.xfer.length.extractLsb' 8 4 ++ b } } ∧
    exec (.peerLenHi b) s = .next { s with
      xfer := { s.xfer with length := b.extractLsb' 0 4 ++ s.xfer.length.extractLsb' 0 8 } } ∧
    exec (.peerPtrLo b) s = .next { s with xfer := { s.xfer with pointer := s.xfer.pointer.extractLsb' 8 8 ++ b } } ∧
    exec (.peerPtrHi b) s = .next { s with xfer := { s.xfer with pointer := b ++ s.xfer.pointer.extractLsb' 0 8 } } ∧
    exec (.peerTgtLo b) s = .next { s with xfer := { s.xfer with target := s.xfer.target.extractLsb' 8 8 ++ b } } ∧
    exec (.peerTgtHi b) s = .next { s with xfer := { s.xfer with target := b ++ s.xfer.target.extractLsb' 0 8 } } ∧
    exec (.peerSrcLo b) s = .next { s with xfer := { s.xfer with source := s.xfer.source.extractLsb' 8 8 ++ b } } ∧
    exec (.peerSrcHi b) s = .next { s with xfer := { s.xfer with source := b ++ s.xfer.source.extractLsb' 0 8 } }

/-! ## Interrupts -/

/-- R191: `poll()` sets the line exactly where some source is enabled and pending, and writes nothing else. -/
def Obligations.PollIsTheOrOfTheSources : Prop :=
  ∀ s : State,
    s.poll = { s with irqOut := s.poll.irqOut } ∧
    (s.poll.irqOut = true ↔
      (s.irq.dec.en = true ∧ s.irq.dec.pend = true) ∨ (s.irq.xfer.en = true ∧ s.irq.xfer.pend = true) ∨
      (s.irq.cmd.en = true ∧ s.irq.cmd.pend = true))

/-- R197: after an IFCTRL write every source keeps its pending flag, which IFSTAT shows whatever the enable, and the line is up at once
exactly where some source is enabled and pending. -/
def Obligations.MaskingIsPerSource : Prop :=
  ∀ (s : State) (d : Byte), ∃ (t : State) (b : Byte),
    exec (.wrIfctrl d) s = .next t ∧ t.HostReads .rdIfstat b ∧
    (t.irqOut = true ↔ (d[5] = true ∧ s.irq.dec.pend = true) ∨ (d[6] = true ∧ s.irq.xfer.pend = true) ∨
      (d[7] = true ∧ s.irq.cmd.pend = true)) ∧
    t.irq.dec.pend = s.irq.dec.pend ∧ t.irq.xfer.pend = s.irq.xfer.pend ∧ t.irq.cmd.pend = s.irq.cmd.pend ∧
    b[5] = !s.irq.dec.pend ∧ b[6] = !s.irq.xfer.pend ∧ b[7] = !s.irq.cmd.pend

/-- The line is written at the poll points of R192 and by the two resets and nowhere else (R35): a poll point leaves it equal to the
aggregate, a reset leaves it low, a COMIN read that empties the queue polls, and any other operation keeps it. The list is the spec's
decisions D21, D22, D27 and D31. -/
def Obligations.LineIsWrittenOnlyAtPollPointsAndResets : Prop :=
  ∀ (i : Instr) (s t : State), exec i s = .next t →
    match i with
    | .wrReset _ => t.irqOut = false
    | .power _ => t.irqOut = false
    | .rdComin => t.irqOut = if s.cmd.empty = false ∧ t.cmd.empty = true then t.aggregate else s.irqOut
    | _ => t.irqOut = if i.writesLine = true then t.aggregate else s.irqOut

/-- Which operations set and clear each interrupt flag (R34, R194 to R196; decisions D9, D22): the peer alone sets a pending flag; a
STAT3 read clears the decoder's, a DTACK write the transfer's, a COMIN read that empties the queue the command's; an IFCTRL write alone
writes an enable; power clears all six. -/
def Obligations.InterruptFlagsChangeOnlyAsListed : Prop :=
  ∀ (i : Instr) (s t : State), exec i s = .next t →
    (t.irq.dec.pend ≠ s.irq.dec.pend →
      (t.irq.dec.pend = true ∧ i = .peerSetPendDec) ∨ (t.irq.dec.pend = false ∧ (i = .rdStat3 ∨ ∃ r, i = .power r))) ∧
    (t.irq.xfer.pend ≠ s.irq.xfer.pend →
      (t.irq.xfer.pend = true ∧ i = .peerSetPendXfer) ∨
      (t.irq.xfer.pend = false ∧ ((∃ d, i = .wrDtack d) ∨ ∃ r, i = .power r))) ∧
    (t.irq.cmd.pend ≠ s.irq.cmd.pend →
      (t.irq.cmd.pend = true ∧ i = .peerSetPendCmd) ∨
      (t.irq.cmd.pend = false ∧ ((i = .rdComin ∧ s.cmd.empty = false ∧ t.cmd.empty = true) ∨ ∃ r, i = .power r))) ∧
    (t.irq.dec.en ≠ s.irq.dec.en ∨ t.irq.xfer.en ≠ s.irq.xfer.en ∨ t.irq.cmd.en ≠ s.irq.cmd.en →
      (∃ d, i = .wrIfctrl d) ∨ ∃ r, i = .power r)

/-! ## The whole machine -/

/-- R151 to R153: after a data access the pointer is what the per-port table says, for reads and writes alike, whatever the port's own
effect; the tick and every peer action leave it. Only an address write and power write it otherwise; what they write stands in
`AddressWriteLoadsPointer` and `PowerRestoresCreation`. -/
def Obligations.PointerFollowsThePerPortTable : Prop :=
  ∀ (i : Instr) (s t : State), exec i s = .next t →
    match i.port? with
    | some p => (p = 0#4 ∨ p = 15#4 → t.addr = 0#4) ∧ (1 ≤ p.toNat ∧ p.toNat ≤ 14 → t.addr.toNat = p.toNat + 1)
    | none => t.addr = s.addr ∨ (∃ a, i = .awr a) ∨ ∃ r, i = .power r

/-- Every data access the host can make runs, in every state and at every port: a read or write word that is next is consumed, its step
answers a next state, and the pointer follows the table (95_test_vectors.md S1 to S3; R100, R120, decisions D2, D32). -/
def Obligations.EveryHostAccessCompletes : Prop :=
  ∀ (s : State) (w : TWord) (rest : List TWord), s.inbox = w :: rest →
    (w = 0x0000#16 ∨ ∃ d : Byte, w = 0x40#8 ++ d) →
    ∃ t : State, step s = .next t ∧ t.inbox = rest ∧
      (s.addr = 0#4 ∨ s.addr = 15#4 → t.addr = 0#4) ∧
      (1 ≤ s.addr.toNat ∧ s.addr.toNat ≤ 14 → t.addr.toNat = s.addr.toNat + 1)

/-- The invariant holds at creation with any legal parameters, and at reset, which is creation with the defaults (R40, R159; log 4).
There the line follows the aggregate and the status queue is within its bound as well. -/
def Obligations.CreationMeetsTheInvariant : Prop :=
  (∀ p : Params, p.Legal → (State.powerOn p).Inv ∧ (State.powerOn p).LineFollows ∧ (State.powerOn p).StatusBounded) ∧
  State.reset = State.powerOn Params.default ∧ State.reset.Inv

/-- Every step keeps the invariant: both queues well formed (R25), the derived decoder bits (R33), the counter inside its width (R37), no
line without a source (R193), legal parameters. The spec marks R25, R33 and R193 as derived. -/
def Obligations.StepKeepsTheInvariant : Prop :=
  ∀ s t : State, s.Inv → step s = .next t → t.Inv

/-- R193 (derived there): `irq_out` equals the aggregate after every step that is no software reset, if it did before. -/
def Obligations.LineFollowsTheAggregateBetweenResets : Prop :=
  ∀ s t : State, s.LineFollows → step s = .next t →
    (∀ w rest d, s.inbox = w :: rest → decode (s.addr ++ w) ≠ .instr (.wrReset d)) → t.LineFollows

/-- Under `STS_EVICT = ONE` no step makes the status queue hold more than one unread byte (R121, derived there; decision D6). -/
def Obligations.StatusQueueHoldsAtMostOneByte : Prop :=
  ∀ s t : State, s.Inv → s.StatusBounded → step s = .next t → t.StatusBounded

/-- Both ring buffers are first-in-first-out lists (R26): what any operation makes of the unread bytes is what `Instr.cmdAfter` and
`Instr.stsAfter` say, for every operation, every depth and both evictions; a COMIN read returns the head of the list, a pop gives the
head to the peer. -/
def Obligations.QueuesRefineLists : Prop :=
  ∀ (i : Instr) (s t : State), s.Inv → s.StatusBounded → exec i s = .next t →
    t.cmdContents = i.cmdAfter s.cmdContents ∧
    t.stsContents = i.stsAfter s.params s.statusGated s.stsContents ∧
    (i = .rdComin → t.hostData = some (s.cmdContents.headD 0xFF#8)) ∧
    (i = .peerStsPop → t.peerData = s.stsContents.head?)

/-- The byte a read gives the host, what a pop gives the peer, the line and the refusals do not depend on `sts.enable`, `xfer.wait`,
`xfer.source`, `xfer.dest`, `xfer.ready`, `xfer.done`, the 14 control bits that no rule reads, or `cnt` (the fields of `State.hide`): two
states that agree in all else take steps that answer alike and still agree in all else. Rules do read two of these fields (a trigger
reads `xfer.dest`, R127, and a tick `cnt`, R155), and write only such fields from them. What a field means to the peer, which owns or
consumes some of them (R24, R31, R37, U17), is outside the core, and this statement says nothing of it. -/
def Obligations.HiddenStateNeverShows : Prop :=
  ∀ s t : State, s.hide = t.hide → Answer.hide (step s) = Answer.hide (step t)

/-- What the peer can not do (R180, R181; decisions D26, D27): no peer action changes the pointer, an enable, a control bit, the decoder
state or the counter, clears a pending flag, or gives the host a byte; and only its setting of a pending flag writes the line. -/
def Obligations.PeerTouchesNoHostState : Prop :=
  ∀ (i : Instr) (s t : State), i.isPeer = true → exec i s = .next t →
    t.addr = s.addr ∧ t.ctl = s.ctl ∧ t.dec = s.dec ∧ t.cnt = s.cnt ∧ t.hostData = s.hostData ∧
    t.irq.dec.en = s.irq.dec.en ∧ t.irq.xfer.en = s.irq.xfer.en ∧ t.irq.cmd.en = s.irq.cmd.en ∧
    (s.irq.dec.pend = true → t.irq.dec.pend = true) ∧ (s.irq.xfer.pend = true → t.irq.xfer.pend = true) ∧
    (s.irq.cmd.pend = true → t.irq.cmd.pend = true) ∧
    (t.irqOut ≠ s.irqOut → i = .peerSetPendDec ∨ i = .peerSetPendXfer ∨ i = .peerSetPendCmd)

/-- Only the tick and power change the counter (R203; decision D23). -/
def Obligations.CounterChangesOnlyByTickAndPower : Prop :=
  ∀ (i : Instr) (s t : State), exec i s = .next t → t.cnt ≠ s.cnt → i = .tick ∨ ∃ r, i = .power r

/-- The writers of the control bits, the decoder state, the header caches and the destination selector are the ones the rules name and no
other operation (R30, R31, R36, R137; decisions D18 to D20, D24). -/
def Obligations.FieldsHaveOnlyTheirWriters : Prop :=
  ∀ (i : Instr) (s t : State), exec i s = .next t →
    (t.ctl ≠ s.ctl →
      (∃ d, i = .wrIfctrl d ∨ i = .wrCtrl0 d ∨ i = .wrCtrl1 d ∨ i = .wrCtrl2 d) ∨ ∃ r, i = .power r) ∧
    (t.dec ≠ s.dec → (∃ d, i = .wrCtrl0 d ∨ i = .wrCtrl1 d) ∨ ∃ r, i = .power r) ∧
    (t.hdr ≠ s.hdr → (∃ b, i = .peerHdr0 b ∨ i = .peerHdr1 b ∨ i = .peerHdr2 b ∨ i = .peerHdr3 b ∨ i = .wrReset b) ∨
      ∃ r, i = .power r) ∧
    (t.shdr ≠ s.shdr → (∃ b, i = .peerShdr0 b ∨ i = .peerShdr1 b ∨ i = .peerShdr2 b ∨ i = .peerShdr3 b ∨ i = .wrReset b) ∨
      ∃ r, i = .power r) ∧
    (t.xfer.dest ≠ s.xfer.dest → (∃ n, i = .peerDest n) ∨ ∃ r, i = .power r)

/-- No operation changes the parameters or the words still to arrive; only a data read gives the host a byte and only a pop gives the
peer something. These fields are the model's own (logs 1, 3, 4). -/
def Obligations.OwnFieldsChangeOnlyAsStated : Prop :=
  ∀ (i : Instr) (s t : State), exec i s = .next t →
    t.params = s.params ∧ t.inbox = s.inbox ∧
    (t.hostData ≠ s.hostData → encode i = 0x0000#16) ∧
    (t.peerData ≠ s.peerData → i = .peerStsPop)
end

