-- ==== Sys2Proof/Laws/Decode.lean ====
section
/-!
SUPPORT. The seams of the decode word (30_encoding.md R85): fields and word determine each other, and masking goes field by field.
-/

namespace Sys2Proof

/-- The fields of a word put together from fields. -/
@[simp] theorem DWord.fields_toDWord (f : Fields) : DWord.fields f.toDWord = f := by
  obtain ⟨p, k, o, b⟩ := f
  simp only [DWord.fields, Fields.toDWord, Fields.mk.injEq]
  refine ⟨?_, ?_, ?_, extract_low_append _ b⟩
  · exact (extract_within_high (p ++ k ++ o) b 16 4 (by omega)).trans
      ((extract_within_high (p ++ k) o 8 4 (by omega)).trans (extract_high_append p k))
  · exact (extract_within_high (p ++ k ++ o) b 14 2 (by omega)).trans
      ((extract_within_high (p ++ k) o 6 2 (by omega)).trans (extract_low_append p k))
  · exact (extract_within_high (p ++ k ++ o) b 8 6 (by omega)).trans (extract_low_append (p ++ k) o)

/-- A word is its fields put together. -/
@[simp] theorem Fields.toDWord_fields (d : DWord) : (DWord.fields d).toDWord = d := by
  have h : d.extractLsb' 16 4 ++ d.extractLsb' 14 2 ++ d.extractLsb' 8 6 = (d.extractLsb' 8 12 : BitVec 12) := by
    apply BitVec.eq_of_getLsbD_eq
    intro i hi
    simp only [BitVec.getLsbD_append, BitVec.getLsbD_extractLsb']
    by_cases h1 : i < 6
    · simp [h1, show i < 12 by omega]
    · by_cases h2 : i - 6 < 2
      · simp [h1, h2, show i < 12 by omega, show 14 + (i - 6) = 8 + i by omega]
      · simp [h1, h2, show i < 12 by omega, show i - 6 - 2 < 4 by omega, show 16 + (i - 6 - 2) = 8 + i by omega]
  exact (congrArg (· ++ d.extractLsb' 0 8) h).trans (extract_append_extract (m := 12) (n := 8) d)

/-- Two decode words with the same fields are the same word. -/
theorem DWord.eq_of_fields {d e : DWord} (h : DWord.fields d = DWord.fields e) : d = e := by
  rw [← Fields.toDWord_fields d, h, Fields.toDWord_fields]

/-- The decode word `{addr, T}` has the pointer in its pointer nibble (R85). -/
theorem DWord.fields_decodeWord_port (addr : Port) (t : TWord) : (DWord.fields (decodeWord addr t)).port = addr :=
  extract_high_append addr t

theorem decode_toDWord (f : Fields) : decode f.toDWord = f.decode := by simp [decode]

theorem append_and_append {m n : Nat} (x y : BitVec m) (z w : BitVec n) : (x ++ z) &&& (y ++ w) = (x &&& y) ++ (z &&& w) := by
  apply BitVec.eq_of_getLsbD_eq
  intro i _
  simp only [BitVec.getLsbD_and, BitVec.getLsbD_append]
  split <;> rfl

/-- Masking a decode word masks each field (R85). -/
theorem Fields.toDWord_and (f m : Fields) :
    f.toDWord &&& m.toDWord = Fields.toDWord ⟨f.port &&& m.port, f.kind &&& m.kind, f.sysop &&& m.sysop, f.payload &&& m.payload⟩ := by
  unfold Fields.toDWord
  refine (append_and_append (f.port ++ f.kind ++ f.sysop) (m.port ++ m.kind ++ m.sysop) f.payload m.payload).trans ?_
  rw [append_and_append (f.port ++ f.kind) (m.port ++ m.kind), append_and_append f.port m.port]

/-- A row selects a word where it does so field by field (R85). -/
theorem OpcodeRow.selects_toDWord_iff (r : OpcodeRow) (f : Fields) :
    r.Selects f.toDWord ↔
      f.port &&& (DWord.fields r.mask).port = (DWord.fields r.bits).port ∧
      f.kind &&& (DWord.fields r.mask).kind = (DWord.fields r.bits).kind ∧
      f.sysop &&& (DWord.fields r.mask).sysop = (DWord.fields r.bits).sysop ∧
      f.payload &&& (DWord.fields r.mask).payload = (DWord.fields r.bits).payload := by
  unfold OpcodeRow.Selects
  conv_lhs => rw [← Fields.toDWord_fields r.mask, Fields.toDWord_and, ← Fields.toDWord_fields r.bits]
  constructor
  · intro h
    have := congrArg DWord.fields h
    simp only [DWord.fields_toDWord] at this
    exact ⟨congrArg Fields.port this, congrArg Fields.kind this, congrArg Fields.sysop this, congrArg Fields.payload this⟩
  · rintro ⟨h1, h2, h3, h4⟩
    rw [h1, h2, h3, h4]

end Sys2Proof
end

