-- ==== Sys2Proof/Laws/Queue.lean ====
section
/-!
SUPPORT. What the queue primitives do to a queue's well-formedness (10_state.md R25), its count (R27) and its contents (R26).
-/

namespace Sys2Proof.Machine

@[simp] theorem Queue.contents_length (depth : Nat) (q : Queue) : (q.contents depth).length = q.count depth := by
  simp [Queue.contents]

/-- One wrap of an index (R26). -/
theorem mod_cases {a depth : Nat} (h : a < 2 * depth) :
    a < depth ∧ a % depth = a ∨ depth ≤ a ∧ a % depth = a - depth := by
  rcases Nat.lt_or_ge a depth with h' | h'
  · exact .inl ⟨h', Nat.mod_eq_of_lt h'⟩
  · exact .inr ⟨h', by rw [Nat.mod_eq_sub_mod h', Nat.mod_eq_of_lt (by omega)]⟩

/-- R27 without the modulus: no byte, or the bytes from the read index to the write index, around the end or not. -/
theorem Queue.count_cases {depth : Nat} {q : Queue} (h : q.Wf depth) :
    q.empty = true ∧ q.read = q.write ∧ q.count depth = 0 ∨
    q.empty = false ∧ q.write ≤ q.read ∧ q.count depth + q.read = q.write + depth ∨
    q.empty = false ∧ q.read < q.write ∧ q.count depth + q.read = q.write := by
  obtain ⟨-, hr, hw, he⟩ := h
  unfold Queue.count
  cases hq : q.empty
  · have := mod_cases (a := q.write + depth - 1 - q.read) (depth := depth) (by omega)
    simp
    omega
  · simp [he hq]

theorem Queue.count_le {depth : Nat} {q : Queue} (h : q.Wf depth) : q.count depth ≤ depth := by
  have := Queue.count_cases h
  obtain ⟨-, hr, hw, -⟩ := h
  omega

theorem Queue.count_pos {depth : Nat} {q : Queue} (h : q.empty = false) : 0 < q.count depth := by
  simp [Queue.count, h]

theorem Queue.count_of_empty {depth : Nat} {q : Queue} (h : q.empty = true) : q.count depth = 0 := by
  simp [Queue.count, h]

theorem Queue.contents_of_empty {depth : Nat} {q : Queue} (h : q.empty = true) : q.contents depth = [] := by
  simp [Queue.contents, Queue.count_of_empty h]

theorem Queue.contents_eq_nil_iff {depth : Nat} {q : Queue} : q.contents depth = [] ↔ q.empty = true := by
  rw [← List.length_eq_zero_iff, Queue.contents_length, Queue.count]
  split <;> simp_all

/-! ## A cleared queue -/

theorem Queue.wf_cleared {depth : Nat} (h : 0 < depth) : (Queue.cleared depth).Wf depth := by
  simp [Queue.Wf, Queue.cleared, h]

@[simp] theorem Queue.contents_cleared (depth : Nat) : (Queue.cleared depth).contents depth = [] :=
  Queue.contents_of_empty rfl

@[simp] theorem Queue.count_cleared (depth : Nat) : (Queue.cleared depth).count depth = 0 :=
  Queue.count_of_empty rfl

/-! ## A read -/

@[simp] theorem Queue.pop_fifo (depth : Nat) (q : Queue) : (q.pop depth).fifo = q.fifo := rfl
@[simp] theorem Queue.pop_read (depth : Nat) (q : Queue) : (q.pop depth).read = (q.read + 1) % depth := rfl
@[simp] theorem Queue.pop_write (depth : Nat) (q : Queue) : (q.pop depth).write = q.write := rfl
@[simp] theorem Queue.pop_empty (depth : Nat) (q : Queue) :
    (q.pop depth).empty = decide ((q.read + 1) % depth = q.write) := rfl

theorem Queue.wf_pop {depth : Nat} {q : Queue} (h : q.Wf depth) : (q.pop depth).Wf depth := by
  obtain ⟨hl, hr, hw, -⟩ := h
  exact ⟨hl, Nat.mod_lt _ (by omega), hw, by simp [Queue.pop]⟩

theorem Queue.count_pop {depth : Nat} {q : Queue} (h : q.Wf depth) (hne : q.empty = false) :
    (q.pop depth).count depth = q.count depth - 1 := by
  have hp := Queue.count_cases (Queue.wf_pop h)
  have hq := Queue.count_cases h
  obtain ⟨-, hr, hw, -⟩ := h
  have hm := mod_cases (a := q.read + 1) (depth := depth) (by omega)
  simp only [Queue.pop_read, Queue.pop_write, Queue.pop_empty, decide_eq_true_eq, decide_eq_false_iff_not, hne,
    Bool.false_eq_true, false_and, true_and, false_or] at hp hq
  omega

/-- The slot of the unread byte number `i`, without the modulus. -/
theorem Queue.contents_getElem {depth : Nat} {q : Queue} (i : Nat) (hi : i < (q.contents depth).length) :
    (q.contents depth)[i] = q.fifo.getD ((q.read + i) % depth) 0#8 := by
  simp [Queue.contents]

/-- A read gives the oldest unread byte and leaves the others in order (R26). -/
theorem Queue.contents_eq_cons {depth : Nat} {q : Queue} (h : q.Wf depth) (hne : q.empty = false) :
    q.contents depth = q.front :: (q.pop depth).contents depth := by
  have hpos := Queue.count_pos (depth := depth) hne
  obtain ⟨-, hr, hw, -⟩ := id h
  apply List.ext_getElem
  · simp [Queue.count_pop h hne]
    omega
  · intro i h1 h2
    rw [Queue.contents_getElem]
    cases i with
    | zero => simp [Queue.front, Nat.mod_eq_of_lt hr]
    | succ n =>
      rw [List.getElem_cons_succ, Queue.contents_getElem]
      simp only [Queue.pop]
      rw [Nat.mod_add_mod]
      congr 2
      omega

theorem Queue.contents_pop {depth : Nat} {q : Queue} (h : q.Wf depth) (hne : q.empty = false) :
    (q.pop depth).contents depth = (q.contents depth).tail := by
  rw [Queue.contents_eq_cons h hne, List.tail_cons]

/-! ## A write -/

@[simp] theorem Queue.push_fifo (depth : Nat) (b : Byte) (q : Queue) : (q.push depth b).fifo = q.fifo.set q.write b := rfl
@[simp] theorem Queue.push_read (depth : Nat) (b : Byte) (q : Queue) : (q.push depth b).read = q.read := rfl
@[simp] theorem Queue.push_write (depth : Nat) (b : Byte) (q : Queue) : (q.push depth b).write = (q.write + 1) % depth := rfl
@[simp] theorem Queue.push_empty (depth : Nat) (b : Byte) (q : Queue) : (q.push depth b).empty = false := rfl

theorem Queue.wf_push {depth : Nat} {q : Queue} (b : Byte) (h : q.Wf depth) : (q.push depth b).Wf depth := by
  obtain ⟨hl, hr, hw, -⟩ := h
  exact ⟨by simpa [Queue.push] using hl, hr, Nat.mod_lt _ (by omega), by simp [Queue.push]⟩

theorem Queue.count_push {depth : Nat} {q : Queue} (b : Byte) (h : q.Wf depth) (hc : q.count depth < depth) :
    (q.push depth b).count depth = q.count depth + 1 := by
  have hp := Queue.count_cases (Queue.wf_push b h)
  have hq := Queue.count_cases h
  obtain ⟨-, hr, hw, -⟩ := h
  have hm := mod_cases (a := q.write + 1) (depth := depth) (by omega)
  simp only [Queue.push_read, Queue.push_write, Queue.push_empty, Bool.false_eq_true, false_and, true_and, false_or] at hp
  omega

/-- A write that finds a free slot appends (R26). -/
theorem Queue.contents_push {depth : Nat} {q : Queue} (b : Byte) (h : q.Wf depth) (hc : q.count depth < depth) :
    (q.push depth b).contents depth = q.contents depth ++ [b] := by
  have hn := Queue.count_push b h hc
  have hq := Queue.count_cases h
  obtain ⟨hl, hr, hw, -⟩ := id h
  apply List.ext_getElem
  · simp [hn]
  · intro i h1 h2
    have hi : i < q.count depth + 1 := by simpa [hn] using h1
    have hslot : (q.read + i) % depth = q.write ↔ i = q.count depth := by
      have hm := mod_cases (a := q.read + i) (depth := depth) (by omega)
      omega
    rw [Queue.contents_getElem, List.getElem_append]
    simp only [Queue.push, Queue.contents_length]
    by_cases hlast : i < q.count depth
    · rw [dif_pos hlast, Queue.contents_getElem, List.getD_eq_getElem?_getD, List.getElem?_set_ne, ← List.getD_eq_getElem?_getD]
      intro hw'
      have := hslot.1 hw'.symm
      omega
    · have hi' : i = q.count depth := by omega
      rw [dif_neg hlast, List.getD_eq_getElem?_getD, hslot.2 hi', List.getElem?_set_self (by omega)]
      simp

/-- Discarding the oldest byte and then writing is a read followed by a write: the write sets the empty flag itself (R121). -/
theorem Queue.push_advanceRead (depth : Nat) (b : Byte) (q : Queue) :
    (q.advanceRead depth).push depth b = (q.pop depth).push depth b := rfl

end Sys2Proof.Machine
end

