-- ==== Sys2Proof/Laws/State.lean ====
section
/-!
SUPPORT. One lemma per field per update of State, true by rfl: what each shared update leaves in each field of R20.
-/

namespace Sys2Proof.Machine

/-! ### `State.poll` -/

@[simp] theorem State.poll_params (s : State) : s.poll.params = s.params := rfl
@[simp] theorem State.poll_addr (s : State) : s.poll.addr = s.addr := rfl
@[simp] theorem State.poll_cmd (s : State) : s.poll.cmd = s.cmd := rfl
@[simp] theorem State.poll_sts (s : State) : s.poll.sts = s.sts := rfl
@[simp] theorem State.poll_xfer (s : State) : s.poll.xfer = s.xfer := rfl
@[simp] theorem State.poll_ctl (s : State) : s.poll.ctl = s.ctl := rfl
@[simp] theorem State.poll_dec (s : State) : s.poll.dec = s.dec := rfl
@[simp] theorem State.poll_irq (s : State) : s.poll.irq = s.irq := rfl
@[simp] theorem State.poll_irqOut (s : State) : s.poll.irqOut = s.aggregate := rfl
@[simp] theorem State.poll_hdr (s : State) : s.poll.hdr = s.hdr := rfl
@[simp] theorem State.poll_shdr (s : State) : s.poll.shdr = s.shdr := rfl
@[simp] theorem State.poll_cnt (s : State) : s.poll.cnt = s.cnt := rfl
@[simp] theorem State.poll_inbox (s : State) : s.poll.inbox = s.inbox := rfl
@[simp] theorem State.poll_hostData (s : State) : s.poll.hostData = s.hostData := rfl
@[simp] theorem State.poll_peerData (s : State) : s.poll.peerData = s.peerData := rfl
@[simp] theorem State.poll_aggregate (s : State) : s.poll.aggregate = s.aggregate := rfl

/-! ### `State.setDecPend` -/

@[simp] theorem State.setDecPend_params (v : Bool) (s : State) : (s.setDecPend v).params = s.params := rfl
@[simp] theorem State.setDecPend_addr (v : Bool) (s : State) : (s.setDecPend v).addr = s.addr := rfl
@[simp] theorem State.setDecPend_cmd (v : Bool) (s : State) : (s.setDecPend v).cmd = s.cmd := rfl
@[simp] theorem State.setDecPend_sts (v : Bool) (s : State) : (s.setDecPend v).sts = s.sts := rfl
@[simp] theorem State.setDecPend_xfer (v : Bool) (s : State) : (s.setDecPend v).xfer = s.xfer := rfl
@[simp] theorem State.setDecPend_ctl (v : Bool) (s : State) : (s.setDecPend v).ctl = s.ctl := rfl
@[simp] theorem State.setDecPend_dec (v : Bool) (s : State) : (s.setDecPend v).dec = s.dec := rfl
@[simp] theorem State.setDecPend_irq (v : Bool) (s : State) :
    (s.setDecPend v).irq = { s.irq with dec := { s.irq.dec with pend := v } } := rfl
@[simp] theorem State.setDecPend_irqOut (v : Bool) (s : State) : (s.setDecPend v).irqOut = s.irqOut := rfl
@[simp] theorem State.setDecPend_hdr (v : Bool) (s : State) : (s.setDecPend v).hdr = s.hdr := rfl
@[simp] theorem State.setDecPend_shdr (v : Bool) (s : State) : (s.setDecPend v).shdr = s.shdr := rfl
@[simp] theorem State.setDecPend_cnt (v : Bool) (s : State) : (s.setDecPend v).cnt = s.cnt := rfl
@[simp] theorem State.setDecPend_inbox (v : Bool) (s : State) : (s.setDecPend v).inbox = s.inbox := rfl
@[simp] theorem State.setDecPend_hostData (v : Bool) (s : State) : (s.setDecPend v).hostData = s.hostData := rfl
@[simp] theorem State.setDecPend_peerData (v : Bool) (s : State) : (s.setDecPend v).peerData = s.peerData := rfl

/-! ### `State.setXferPend` -/

@[simp] theorem State.setXferPend_params (v : Bool) (s : State) : (s.setXferPend v).params = s.params := rfl
@[simp] theorem State.setXferPend_addr (v : Bool) (s : State) : (s.setXferPend v).addr = s.addr := rfl
@[simp] theorem State.setXferPend_cmd (v : Bool) (s : State) : (s.setXferPend v).cmd = s.cmd := rfl
@[simp] theorem State.setXferPend_sts (v : Bool) (s : State) : (s.setXferPend v).sts = s.sts := rfl
@[simp] theorem State.setXferPend_xfer (v : Bool) (s : State) : (s.setXferPend v).xfer = s.xfer := rfl
@[simp] theorem State.setXferPend_ctl (v : Bool) (s : State) : (s.setXferPend v).ctl = s.ctl := rfl
@[simp] theorem State.setXferPend_dec (v : Bool) (s : State) : (s.setXferPend v).dec = s.dec := rfl
@[simp] theorem State.setXferPend_irq (v : Bool) (s : State) :
    (s.setXferPend v).irq = { s.irq with xfer := { s.irq.xfer with pend := v } } := rfl
@[simp] theorem State.setXferPend_irqOut (v : Bool) (s : State) : (s.setXferPend v).irqOut = s.irqOut := rfl
@[simp] theorem State.setXferPend_hdr (v : Bool) (s : State) : (s.setXferPend v).hdr = s.hdr := rfl
@[simp] theorem State.setXferPend_shdr (v : Bool) (s : State) : (s.setXferPend v).shdr = s.shdr := rfl
@[simp] theorem State.setXferPend_cnt (v : Bool) (s : State) : (s.setXferPend v).cnt = s.cnt := rfl
@[simp] theorem State.setXferPend_inbox (v : Bool) (s : State) : (s.setXferPend v).inbox = s.inbox := rfl
@[simp] theorem State.setXferPend_hostData (v : Bool) (s : State) : (s.setXferPend v).hostData = s.hostData := rfl
@[simp] theorem State.setXferPend_peerData (v : Bool) (s : State) : (s.setXferPend v).peerData = s.peerData := rfl

/-! ### `State.setCmdPend` -/

@[simp] theorem State.setCmdPend_params (v : Bool) (s : State) : (s.setCmdPend v).params = s.params := rfl
@[simp] theorem State.setCmdPend_addr (v : Bool) (s : State) : (s.setCmdPend v).addr = s.addr := rfl
@[simp] theorem State.setCmdPend_cmd (v : Bool) (s : State) : (s.setCmdPend v).cmd = s.cmd := rfl
@[simp] theorem State.setCmdPend_sts (v : Bool) (s : State) : (s.setCmdPend v).sts = s.sts := rfl
@[simp] theorem State.setCmdPend_xfer (v : Bool) (s : State) : (s.setCmdPend v).xfer = s.xfer := rfl
@[simp] theorem State.setCmdPend_ctl (v : Bool) (s : State) : (s.setCmdPend v).ctl = s.ctl := rfl
@[simp] theorem State.setCmdPend_dec (v : Bool) (s : State) : (s.setCmdPend v).dec = s.dec := rfl
@[simp] theorem State.setCmdPend_irq (v : Bool) (s : State) :
    (s.setCmdPend v).irq = { s.irq with cmd := { s.irq.cmd with pend := v } } := rfl
@[simp] theorem State.setCmdPend_irqOut (v : Bool) (s : State) : (s.setCmdPend v).irqOut = s.irqOut := rfl
@[simp] theorem State.setCmdPend_hdr (v : Bool) (s : State) : (s.setCmdPend v).hdr = s.hdr := rfl
@[simp] theorem State.setCmdPend_shdr (v : Bool) (s : State) : (s.setCmdPend v).shdr = s.shdr := rfl
@[simp] theorem State.setCmdPend_cnt (v : Bool) (s : State) : (s.setCmdPend v).cnt = s.cnt := rfl
@[simp] theorem State.setCmdPend_inbox (v : Bool) (s : State) : (s.setCmdPend v).inbox = s.inbox := rfl
@[simp] theorem State.setCmdPend_hostData (v : Bool) (s : State) : (s.setCmdPend v).hostData = s.hostData := rfl
@[simp] theorem State.setCmdPend_peerData (v : Bool) (s : State) : (s.setCmdPend v).peerData = s.peerData := rfl

/-! ### `State.advance` -/

@[simp] theorem State.advance_params (p : Port) (s : State) : (s.advance p).params = s.params := rfl
@[simp] theorem State.advance_addr (p : Port) (s : State) : (s.advance p).addr = nextPort p := rfl
@[simp] theorem State.advance_cmd (p : Port) (s : State) : (s.advance p).cmd = s.cmd := rfl
@[simp] theorem State.advance_sts (p : Port) (s : State) : (s.advance p).sts = s.sts := rfl
@[simp] theorem State.advance_xfer (p : Port) (s : State) : (s.advance p).xfer = s.xfer := rfl
@[simp] theorem State.advance_ctl (p : Port) (s : State) : (s.advance p).ctl = s.ctl := rfl
@[simp] theorem State.advance_dec (p : Port) (s : State) : (s.advance p).dec = s.dec := rfl
@[simp] theorem State.advance_irq (p : Port) (s : State) : (s.advance p).irq = s.irq := rfl
@[simp] theorem State.advance_irqOut (p : Port) (s : State) : (s.advance p).irqOut = s.irqOut := rfl
@[simp] theorem State.advance_hdr (p : Port) (s : State) : (s.advance p).hdr = s.hdr := rfl
@[simp] theorem State.advance_shdr (p : Port) (s : State) : (s.advance p).shdr = s.shdr := rfl
@[simp] theorem State.advance_cnt (p : Port) (s : State) : (s.advance p).cnt = s.cnt := rfl
@[simp] theorem State.advance_inbox (p : Port) (s : State) : (s.advance p).inbox = s.inbox := rfl
@[simp] theorem State.advance_hostData (p : Port) (s : State) : (s.advance p).hostData = s.hostData := rfl
@[simp] theorem State.advance_peerData (p : Port) (s : State) : (s.advance p).peerData = s.peerData := rfl
@[simp] theorem State.advance_aggregate (p : Port) (s : State) : (s.advance p).aggregate = s.aggregate := rfl

/-! ### `State.answerHost` -/

@[simp] theorem State.answerHost_params (d : Byte) (s : State) : (s.answerHost d).params = s.params := rfl
@[simp] theorem State.answerHost_addr (d : Byte) (s : State) : (s.answerHost d).addr = s.addr := rfl
@[simp] theorem State.answerHost_cmd (d : Byte) (s : State) : (s.answerHost d).cmd = s.cmd := rfl
@[simp] theorem State.answerHost_sts (d : Byte) (s : State) : (s.answerHost d).sts = s.sts := rfl
@[simp] theorem State.answerHost_xfer (d : Byte) (s : State) : (s.answerHost d).xfer = s.xfer := rfl
@[simp] theorem State.answerHost_ctl (d : Byte) (s : State) : (s.answerHost d).ctl = s.ctl := rfl
@[simp] theorem State.answerHost_dec (d : Byte) (s : State) : (s.answerHost d).dec = s.dec := rfl
@[simp] theorem State.answerHost_irq (d : Byte) (s : State) : (s.answerHost d).irq = s.irq := rfl
@[simp] theorem State.answerHost_irqOut (d : Byte) (s : State) : (s.answerHost d).irqOut = s.irqOut := rfl
@[simp] theorem State.answerHost_hdr (d : Byte) (s : State) : (s.answerHost d).hdr = s.hdr := rfl
@[simp] theorem State.answerHost_shdr (d : Byte) (s : State) : (s.answerHost d).shdr = s.shdr := rfl
@[simp] theorem State.answerHost_cnt (d : Byte) (s : State) : (s.answerHost d).cnt = s.cnt := rfl
@[simp] theorem State.answerHost_inbox (d : Byte) (s : State) : (s.answerHost d).inbox = s.inbox := rfl
@[simp] theorem State.answerHost_hostData (d : Byte) (s : State) : (s.answerHost d).hostData = some d := rfl
@[simp] theorem State.answerHost_peerData (d : Byte) (s : State) : (s.answerHost d).peerData = s.peerData := rfl
@[simp] theorem State.answerHost_aggregate (d : Byte) (s : State) : (s.answerHost d).aggregate = s.aggregate := rfl

/-! ### `State.answerPeer` -/

@[simp] theorem State.answerPeer_params (b : Option Byte) (s : State) : (s.answerPeer b).params = s.params := rfl
@[simp] theorem State.answerPeer_addr (b : Option Byte) (s : State) : (s.answerPeer b).addr = s.addr := rfl
@[simp] theorem State.answerPeer_cmd (b : Option Byte) (s : State) : (s.answerPeer b).cmd = s.cmd := rfl
@[simp] theorem State.answerPeer_sts (b : Option Byte) (s : State) : (s.answerPeer b).sts = s.sts := rfl
@[simp] theorem State.answerPeer_xfer (b : Option Byte) (s : State) : (s.answerPeer b).xfer = s.xfer := rfl
@[simp] theorem State.answerPeer_ctl (b : Option Byte) (s : State) : (s.answerPeer b).ctl = s.ctl := rfl
@[simp] theorem State.answerPeer_dec (b : Option Byte) (s : State) : (s.answerPeer b).dec = s.dec := rfl
@[simp] theorem State.answerPeer_irq (b : Option Byte) (s : State) : (s.answerPeer b).irq = s.irq := rfl
@[simp] theorem State.answerPeer_irqOut (b : Option Byte) (s : State) : (s.answerPeer b).irqOut = s.irqOut := rfl
@[simp] theorem State.answerPeer_hdr (b : Option Byte) (s : State) : (s.answerPeer b).hdr = s.hdr := rfl
@[simp] theorem State.answerPeer_shdr (b : Option Byte) (s : State) : (s.answerPeer b).shdr = s.shdr := rfl
@[simp] theorem State.answerPeer_cnt (b : Option Byte) (s : State) : (s.answerPeer b).cnt = s.cnt := rfl
@[simp] theorem State.answerPeer_inbox (b : Option Byte) (s : State) : (s.answerPeer b).inbox = s.inbox := rfl
@[simp] theorem State.answerPeer_hostData (b : Option Byte) (s : State) : (s.answerPeer b).hostData = s.hostData := rfl
@[simp] theorem State.answerPeer_peerData (b : Option Byte) (s : State) : (s.answerPeer b).peerData = b := rfl
@[simp] theorem State.answerPeer_aggregate (b : Option Byte) (s : State) : (s.answerPeer b).aggregate = s.aggregate := rfl

/-! ### `State.statusAppend` -/

@[simp] theorem State.statusAppend_params (d : Byte) (s : State) : (s.statusAppend d).params = s.params := rfl
@[simp] theorem State.statusAppend_addr (d : Byte) (s : State) : (s.statusAppend d).addr = s.addr := rfl
@[simp] theorem State.statusAppend_cmd (d : Byte) (s : State) : (s.statusAppend d).cmd = s.cmd := rfl
@[simp] theorem State.statusAppend_sts (d : Byte) (s : State) :
    (s.statusAppend d).sts = { s.sts with toQueue := s.statusRoom.push s.params.stsDepth d, active := true, busy := true } := rfl
@[simp] theorem State.statusAppend_xfer (d : Byte) (s : State) : (s.statusAppend d).xfer = s.xfer := rfl
@[simp] theorem State.statusAppend_ctl (d : Byte) (s : State) : (s.statusAppend d).ctl = s.ctl := rfl
@[simp] theorem State.statusAppend_dec (d : Byte) (s : State) : (s.statusAppend d).dec = s.dec := rfl
@[simp] theorem State.statusAppend_irq (d : Byte) (s : State) : (s.statusAppend d).irq = s.irq := rfl
@[simp] theorem State.statusAppend_irqOut (d : Byte) (s : State) : (s.statusAppend d).irqOut = s.irqOut := rfl
@[simp] theorem State.statusAppend_hdr (d : Byte) (s : State) : (s.statusAppend d).hdr = s.hdr := rfl
@[simp] theorem State.statusAppend_shdr (d : Byte) (s : State) : (s.statusAppend d).shdr = s.shdr := rfl
@[simp] theorem State.statusAppend_cnt (d : Byte) (s : State) : (s.statusAppend d).cnt = s.cnt := rfl
@[simp] theorem State.statusAppend_inbox (d : Byte) (s : State) : (s.statusAppend d).inbox = s.inbox := rfl
@[simp] theorem State.statusAppend_hostData (d : Byte) (s : State) : (s.statusAppend d).hostData = s.hostData := rfl
@[simp] theorem State.statusAppend_peerData (d : Byte) (s : State) : (s.statusAppend d).peerData = s.peerData := rfl
@[simp] theorem State.statusAppend_aggregate (d : Byte) (s : State) : (s.statusAppend d).aggregate = s.aggregate := rfl

/-! ### `State.abortTransfer` -/

@[simp] theorem State.abortTransfer_params (s : State) : s.abortTransfer.params = s.params := rfl
@[simp] theorem State.abortTransfer_addr (s : State) : s.abortTransfer.addr = s.addr := rfl
@[simp] theorem State.abortTransfer_cmd (s : State) : s.abortTransfer.cmd = s.cmd := rfl
@[simp] theorem State.abortTransfer_sts (s : State) : s.abortTransfer.sts = s.sts := rfl
@[simp] theorem State.abortTransfer_xfer (s : State) : s.abortTransfer.xfer = { s.xfer with active := false, busy := false } := rfl
@[simp] theorem State.abortTransfer_ctl (s : State) : s.abortTransfer.ctl = s.ctl := rfl
@[simp] theorem State.abortTransfer_dec (s : State) : s.abortTransfer.dec = s.dec := rfl
@[simp] theorem State.abortTransfer_irq (s : State) : s.abortTransfer.irq = s.irq := rfl
@[simp] theorem State.abortTransfer_irqOut (s : State) : s.abortTransfer.irqOut = s.irqOut := rfl
@[simp] theorem State.abortTransfer_hdr (s : State) : s.abortTransfer.hdr = s.hdr := rfl
@[simp] theorem State.abortTransfer_shdr (s : State) : s.abortTransfer.shdr = s.shdr := rfl
@[simp] theorem State.abortTransfer_cnt (s : State) : s.abortTransfer.cnt = s.cnt := rfl
@[simp] theorem State.abortTransfer_inbox (s : State) : s.abortTransfer.inbox = s.inbox := rfl
@[simp] theorem State.abortTransfer_hostData (s : State) : s.abortTransfer.hostData = s.hostData := rfl
@[simp] theorem State.abortTransfer_peerData (s : State) : s.abortTransfer.peerData = s.peerData := rfl
@[simp] theorem State.abortTransfer_aggregate (s : State) : s.abortTransfer.aggregate = s.aggregate := rfl

/-! ### `State.triggerTransfer` -/

@[simp] theorem State.triggerTransfer_params (s : State) : s.triggerTransfer.params = s.params := rfl
@[simp] theorem State.triggerTransfer_addr (s : State) : s.triggerTransfer.addr = s.addr := rfl
@[simp] theorem State.triggerTransfer_cmd (s : State) : s.triggerTransfer.cmd = s.cmd := rfl
@[simp] theorem State.triggerTransfer_sts (s : State) : s.triggerTransfer.sts = s.sts := rfl
@[simp] theorem State.triggerTransfer_xfer (s : State) :
    s.triggerTransfer.xfer = { s.xfer with active := true, busy := true, done := false, ready := s.params.cpuReadDests.contains s.xfer.dest } := rfl
@[simp] theorem State.triggerTransfer_ctl (s : State) : s.triggerTransfer.ctl = s.ctl := rfl
@[simp] theorem State.triggerTransfer_dec (s : State) : s.triggerTransfer.dec = s.dec := rfl
@[simp] theorem State.triggerTransfer_irq (s : State) : s.triggerTransfer.irq = s.irq := rfl
@[simp] theorem State.triggerTransfer_irqOut (s : State) : s.triggerTransfer.irqOut = s.irqOut := rfl
@[simp] theorem State.triggerTransfer_hdr (s : State) : s.triggerTransfer.hdr = s.hdr := rfl
@[simp] theorem State.triggerTransfer_shdr (s : State) : s.triggerTransfer.shdr = s.shdr := rfl
@[simp] theorem State.triggerTransfer_cnt (s : State) : s.triggerTransfer.cnt = s.cnt := rfl
@[simp] theorem State.triggerTransfer_inbox (s : State) : s.triggerTransfer.inbox = s.inbox := rfl
@[simp] theorem State.triggerTransfer_hostData (s : State) : s.triggerTransfer.hostData = s.hostData := rfl
@[simp] theorem State.triggerTransfer_peerData (s : State) : s.triggerTransfer.peerData = s.peerData := rfl
@[simp] theorem State.triggerTransfer_aggregate (s : State) : s.triggerTransfer.aggregate = s.aggregate := rfl

/-! ### `State.decUpdate` -/

@[simp] theorem State.decUpdate_params (s : State) : s.decUpdate.params = s.params := rfl
@[simp] theorem State.decUpdate_addr (s : State) : s.decUpdate.addr = s.addr := rfl
@[simp] theorem State.decUpdate_cmd (s : State) : s.decUpdate.cmd = s.cmd := rfl
@[simp] theorem State.decUpdate_sts (s : State) : s.decUpdate.sts = s.sts := rfl
@[simp] theorem State.decUpdate_xfer (s : State) : s.decUpdate.xfer = s.xfer := rfl
@[simp] theorem State.decUpdate_ctl (s : State) : s.decUpdate.ctl = s.ctl := rfl
@[simp] theorem State.decUpdate_dec (s : State) :
    s.decUpdate.dec = { s.dec with form := s.ctl.formrq && s.ctl.autorq, mode := s.ctl.modrq } := rfl
@[simp] theorem State.decUpdate_irq (s : State) : s.decUpdate.irq = s.irq := rfl
@[simp] theorem State.decUpdate_irqOut (s : State) : s.decUpdate.irqOut = s.irqOut := rfl
@[simp] theorem State.decUpdate_hdr (s : State) : s.decUpdate.hdr = s.hdr := rfl
@[simp] theorem State.decUpdate_shdr (s : State) : s.decUpdate.shdr = s.shdr := rfl
@[simp] theorem State.decUpdate_cnt (s : State) : s.decUpdate.cnt = s.cnt := rfl
@[simp] theorem State.decUpdate_inbox (s : State) : s.decUpdate.inbox = s.inbox := rfl
@[simp] theorem State.decUpdate_hostData (s : State) : s.decUpdate.hostData = s.hostData := rfl
@[simp] theorem State.decUpdate_peerData (s : State) : s.decUpdate.peerData = s.peerData := rfl
@[simp] theorem State.decUpdate_aggregate (s : State) : s.decUpdate.aggregate = s.aggregate := rfl

/-! ### `State.loadIfctrl` -/

@[simp] theorem State.loadIfctrl_params (d : Byte) (s : State) : (s.loadIfctrl d).params = s.params := rfl
@[simp] theorem State.loadIfctrl_addr (d : Byte) (s : State) : (s.loadIfctrl d).addr = s.addr := rfl
@[simp] theorem State.loadIfctrl_cmd (d : Byte) (s : State) : (s.loadIfctrl d).cmd = s.cmd := rfl
@[simp] theorem State.loadIfctrl_sts (d : Byte) (s : State) :
    (s.loadIfctrl d).sts = { s.sts with enable := d[0], wait := !d[2] } := rfl
@[simp] theorem State.loadIfctrl_xfer (d : Byte) (s : State) :
    (s.loadIfctrl d).xfer = { s.xfer with enable := d[1], wait := !d[3] } := rfl
@[simp] theorem State.loadIfctrl_ctl (d : Byte) (s : State) : (s.loadIfctrl d).ctl = { s.ctl with cmdbrk := !d[4] } := rfl
@[simp] theorem State.loadIfctrl_dec (d : Byte) (s : State) : (s.loadIfctrl d).dec = s.dec := rfl
@[simp] theorem State.loadIfctrl_irq (d : Byte) (s : State) :
    (s.loadIfctrl d).irq = ⟨{ s.irq.dec with en := d[5] }, { s.irq.xfer with en := d[6] }, { s.irq.cmd with en := d[7] }⟩ := rfl
@[simp] theorem State.loadIfctrl_irqOut (d : Byte) (s : State) : (s.loadIfctrl d).irqOut = s.irqOut := rfl
@[simp] theorem State.loadIfctrl_hdr (d : Byte) (s : State) : (s.loadIfctrl d).hdr = s.hdr := rfl
@[simp] theorem State.loadIfctrl_shdr (d : Byte) (s : State) : (s.loadIfctrl d).shdr = s.shdr := rfl
@[simp] theorem State.loadIfctrl_cnt (d : Byte) (s : State) : (s.loadIfctrl d).cnt = s.cnt := rfl
@[simp] theorem State.loadIfctrl_inbox (d : Byte) (s : State) : (s.loadIfctrl d).inbox = s.inbox := rfl
@[simp] theorem State.loadIfctrl_hostData (d : Byte) (s : State) : (s.loadIfctrl d).hostData = s.hostData := rfl
@[simp] theorem State.loadIfctrl_peerData (d : Byte) (s : State) : (s.loadIfctrl d).peerData = s.peerData := rfl

/-! ### `State.loadCtrl0` -/

@[simp] theorem State.loadCtrl0_params (d : Byte) (s : State) : (s.loadCtrl0 d).params = s.params := rfl
@[simp] theorem State.loadCtrl0_addr (d : Byte) (s : State) : (s.loadCtrl0 d).addr = s.addr := rfl
@[simp] theorem State.loadCtrl0_cmd (d : Byte) (s : State) : (s.loadCtrl0 d).cmd = s.cmd := rfl
@[simp] theorem State.loadCtrl0_sts (d : Byte) (s : State) : (s.loadCtrl0 d).sts = s.sts := rfl
@[simp] theorem State.loadCtrl0_xfer (d : Byte) (s : State) : (s.loadCtrl0 d).xfer = s.xfer := rfl
@[simp] theorem State.loadCtrl0_ctl (d : Byte) (s : State) :
    (s.loadCtrl0 d).ctl = { s.ctl with prq := d[0], qrq := d[1], wrrq := d[2], eramrq := d[3], autorq := d[4], e01rq := d[5] } := rfl
@[simp] theorem State.loadCtrl0_dec (d : Byte) (s : State) : (s.loadCtrl0 d).dec = { s.dec with enable := d[7] } := rfl
@[simp] theorem State.loadCtrl0_irq (d : Byte) (s : State) : (s.loadCtrl0 d).irq = s.irq := rfl
@[simp] theorem State.loadCtrl0_irqOut (d : Byte) (s : State) : (s.loadCtrl0 d).irqOut = s.irqOut := rfl
@[simp] theorem State.loadCtrl0_hdr (d : Byte) (s : State) : (s.loadCtrl0 d).hdr = s.hdr := rfl
@[simp] theorem State.loadCtrl0_shdr (d : Byte) (s : State) : (s.loadCtrl0 d).shdr = s.shdr := rfl
@[simp] theorem State.loadCtrl0_cnt (d : Byte) (s : State) : (s.loadCtrl0 d).cnt = s.cnt := rfl
@[simp] theorem State.loadCtrl0_inbox (d : Byte) (s : State) : (s.loadCtrl0 d).inbox = s.inbox := rfl
@[simp] theorem State.loadCtrl0_hostData (d : Byte) (s : State) : (s.loadCtrl0 d).hostData = s.hostData := rfl
@[simp] theorem State.loadCtrl0_peerData (d : Byte) (s : State) : (s.loadCtrl0 d).peerData = s.peerData := rfl
@[simp] theorem State.loadCtrl0_aggregate (d : Byte) (s : State) : (s.loadCtrl0 d).aggregate = s.aggregate := rfl

/-! ### `State.loadCtrl1` -/

@[simp] theorem State.loadCtrl1_params (d : Byte) (s : State) : (s.loadCtrl1 d).params = s.params := rfl
@[simp] theorem State.loadCtrl1_addr (d : Byte) (s : State) : (s.loadCtrl1 d).addr = s.addr := rfl
@[simp] theorem State.loadCtrl1_cmd (d : Byte) (s : State) : (s.loadCtrl1 d).cmd = s.cmd := rfl
@[simp] theorem State.loadCtrl1_sts (d : Byte) (s : State) : (s.loadCtrl1 d).sts = s.sts := rfl
@[simp] theorem State.loadCtrl1_xfer (d : Byte) (s : State) : (s.loadCtrl1 d).xfer = s.xfer := rfl
@[simp] theorem State.loadCtrl1_ctl (d : Byte) (s : State) :
    (s.loadCtrl1 d).ctl = { s.ctl with head := d[0], mbckrq := d[1], formrq := d[2], modrq := d[3], cowren := d[4], dscren := d[5], syden := d[6], syien := d[7] } := rfl
@[simp] theorem State.loadCtrl1_dec (d : Byte) (s : State) : (s.loadCtrl1 d).dec = s.dec := rfl
@[simp] theorem State.loadCtrl1_irq (d : Byte) (s : State) : (s.loadCtrl1 d).irq = s.irq := rfl
@[simp] theorem State.loadCtrl1_irqOut (d : Byte) (s : State) : (s.loadCtrl1 d).irqOut = s.irqOut := rfl
@[simp] theorem State.loadCtrl1_hdr (d : Byte) (s : State) : (s.loadCtrl1 d).hdr = s.hdr := rfl
@[simp] theorem State.loadCtrl1_shdr (d : Byte) (s : State) : (s.loadCtrl1 d).shdr = s.shdr := rfl
@[simp] theorem State.loadCtrl1_cnt (d : Byte) (s : State) : (s.loadCtrl1 d).cnt = s.cnt := rfl
@[simp] theorem State.loadCtrl1_inbox (d : Byte) (s : State) : (s.loadCtrl1 d).inbox = s.inbox := rfl
@[simp] theorem State.loadCtrl1_hostData (d : Byte) (s : State) : (s.loadCtrl1 d).hostData = s.hostData := rfl
@[simp] theorem State.loadCtrl1_peerData (d : Byte) (s : State) : (s.loadCtrl1 d).peerData = s.peerData := rfl
@[simp] theorem State.loadCtrl1_aggregate (d : Byte) (s : State) : (s.loadCtrl1 d).aggregate = s.aggregate := rfl

/-! ### `State.loadCtrl2` -/

@[simp] theorem State.loadCtrl2_params (d : Byte) (s : State) : (s.loadCtrl2 d).params = s.params := rfl
@[simp] theorem State.loadCtrl2_addr (d : Byte) (s : State) : (s.loadCtrl2 d).addr = s.addr := rfl
@[simp] theorem State.loadCtrl2_cmd (d : Byte) (s : State) : (s.loadCtrl2 d).cmd = s.cmd := rfl
@[simp] theorem State.loadCtrl2_sts (d : Byte) (s : State) : (s.loadCtrl2 d).sts = s.sts := rfl
@[simp] theorem State.loadCtrl2_xfer (d : Byte) (s : State) : (s.loadCtrl2 d).xfer = s.xfer := rfl
@[simp] theorem State.loadCtrl2_ctl (d : Byte) (s : State) :
    (s.loadCtrl2 d).ctl = { s.ctl with stentrg := d[0], stenctl := d[1], eprmrq := d[2] } := rfl
@[simp] theorem State.loadCtrl2_dec (d : Byte) (s : State) : (s.loadCtrl2 d).dec = s.dec := rfl
@[simp] theorem State.loadCtrl2_irq (d : Byte) (s : State) : (s.loadCtrl2 d).irq = s.irq := rfl
@[simp] theorem State.loadCtrl2_irqOut (d : Byte) (s : State) : (s.loadCtrl2 d).irqOut = s.irqOut := rfl
@[simp] theorem State.loadCtrl2_hdr (d : Byte) (s : State) : (s.loadCtrl2 d).hdr = s.hdr := rfl
@[simp] theorem State.loadCtrl2_shdr (d : Byte) (s : State) : (s.loadCtrl2 d).shdr = s.shdr := rfl
@[simp] theorem State.loadCtrl2_cnt (d : Byte) (s : State) : (s.loadCtrl2 d).cnt = s.cnt := rfl
@[simp] theorem State.loadCtrl2_inbox (d : Byte) (s : State) : (s.loadCtrl2 d).inbox = s.inbox := rfl
@[simp] theorem State.loadCtrl2_hostData (d : Byte) (s : State) : (s.loadCtrl2 d).hostData = s.hostData := rfl
@[simp] theorem State.loadCtrl2_peerData (d : Byte) (s : State) : (s.loadCtrl2 d).peerData = s.peerData := rfl
@[simp] theorem State.loadCtrl2_aggregate (d : Byte) (s : State) : (s.loadCtrl2 d).aggregate = s.aggregate := rfl

/-! ### `State.softwareReset` -/

@[simp] theorem State.softwareReset_params (s : State) : s.softwareReset.params = s.params := rfl
@[simp] theorem State.softwareReset_addr (s : State) : s.softwareReset.addr = s.addr := rfl
@[simp] theorem State.softwareReset_cmd (s : State) : s.softwareReset.cmd = Queue.cleared s.params.cmdDepth := rfl
@[simp] theorem State.softwareReset_sts (s : State) :
    s.softwareReset.sts = ⟨Queue.cleared s.params.stsDepth, false, false, false, false⟩ := rfl
@[simp] theorem State.softwareReset_xfer (s : State) :
    s.softwareReset.xfer = ⟨0#12, 0#16, 0#16, 0#16, false, false, false, false, s.xfer.dest, s.xfer.ready, s.xfer.done⟩ := rfl
@[simp] theorem State.softwareReset_ctl (s : State) : s.softwareReset.ctl = s.ctl := rfl
@[simp] theorem State.softwareReset_dec (s : State) : s.softwareReset.dec = s.dec := rfl
@[simp] theorem State.softwareReset_irq (s : State) : s.softwareReset.irq = s.irq := rfl
@[simp] theorem State.softwareReset_irqOut (s : State) : s.softwareReset.irqOut = false := rfl
@[simp] theorem State.softwareReset_hdr (s : State) : s.softwareReset.hdr = ⟨0#8, 0#8, 0#8, 0#8⟩ := rfl
@[simp] theorem State.softwareReset_shdr (s : State) : s.softwareReset.shdr = ⟨0#8, 0#8, 0#8, 0#8⟩ := rfl
@[simp] theorem State.softwareReset_cnt (s : State) : s.softwareReset.cnt = s.cnt := rfl
@[simp] theorem State.softwareReset_inbox (s : State) : s.softwareReset.inbox = s.inbox := rfl
@[simp] theorem State.softwareReset_hostData (s : State) : s.softwareReset.hostData = s.hostData := rfl
@[simp] theorem State.softwareReset_peerData (s : State) : s.softwareReset.peerData = s.peerData := rfl
@[simp] theorem State.softwareReset_aggregate (s : State) : s.softwareReset.aggregate = s.aggregate := rfl

/-! ### `State.powerClear` -/

@[simp] theorem State.powerClear_params (s : State) : s.powerClear.params = s.params := rfl
@[simp] theorem State.powerClear_addr (s : State) : s.powerClear.addr = 0#4 := rfl
@[simp] theorem State.powerClear_cmd (s : State) : s.powerClear.cmd = Queue.cleared s.params.cmdDepth := rfl
@[simp] theorem State.powerClear_sts (s : State) :
    s.powerClear.sts = ⟨Queue.cleared s.params.stsDepth, false, false, false, false⟩ := rfl
@[simp] theorem State.powerClear_xfer (s : State) :
    s.powerClear.xfer = ⟨0#12, 0#16, 0#16, 0#16, false, false, false, false, 0#2, false, false⟩ := rfl
@[simp] theorem State.powerClear_ctl (s : State) :
    s.powerClear.ctl = ⟨false, false, false, false, false, false, false, false, false, false, false, false, false, false, false, false, false, false⟩ := rfl
@[simp] theorem State.powerClear_dec (s : State) : s.powerClear.dec = ⟨false, false, false⟩ := rfl
@[simp] theorem State.powerClear_irq (s : State) : s.powerClear.irq = ⟨⟨false, false⟩, ⟨false, false⟩, ⟨false, false⟩⟩ := rfl
@[simp] theorem State.powerClear_irqOut (s : State) : s.powerClear.irqOut = false := rfl
@[simp] theorem State.powerClear_hdr (s : State) : s.powerClear.hdr = ⟨0#8, 0#8, 0#8, 0#8⟩ := rfl
@[simp] theorem State.powerClear_shdr (s : State) : s.powerClear.shdr = ⟨0#8, 0#8, 0#8, 0#8⟩ := rfl
@[simp] theorem State.powerClear_cnt (s : State) : s.powerClear.cnt = 0 := rfl
@[simp] theorem State.powerClear_inbox (s : State) : s.powerClear.inbox = s.inbox := rfl
@[simp] theorem State.powerClear_hostData (s : State) : s.powerClear.hostData = s.hostData := rfl
@[simp] theorem State.powerClear_peerData (s : State) : s.powerClear.peerData = s.peerData := rfl

end Sys2Proof.Machine
end

