-- ==== Sys2Proof/Laws/Ops.lean ====
section
/-!
SUPPORT. What the shared operations do, said once: the pointer rule (R151, R152), the aggregator (R191), the status append (R121), the
resets (R136, R157) and the arrival of an operation (R85).
-/

namespace Sys2Proof.Machine

theorem Params.cmdDepth_pos (p : Params) : 0 < p.cmdDepth := Nat.two_pow_pos _

theorem Params.stsDepth_pos (p : Params) : 0 < p.stsDepth := Nat.two_pow_pos _

/-- A legal status queue has at least two slots (R7). -/
theorem Params.two_le_stsDepth {p : Params} (h : p.Legal) : 2 ≤ p.stsDepth := by
  have := Nat.pow_le_pow_right (n := 2) (by omega) h.1
  simpa [Params.stsDepth] using this

/-- The table of R152. -/
theorem nextPort_table : nextPort 0#4 = 0#4 ∧ nextPort 15#4 = 0#4 ∧
    ∀ p : Port, 1 ≤ p.toNat → p.toNat ≤ 14 → (nextPort p).toNat = p.toNat + 1 := by decide

/-- A data read ends in a next state: the byte is returned and the pointer advanced. -/
@[simp] theorem hostRead_eq (p : Port) (d : Byte) (s : State) :
    hostRead p d s = .next { s with hostData := some d, addr := nextPort p } := rfl

/-- A data write ends in a next state with the pointer advanced. -/
@[simp] theorem hostWrite_eq (p : Port) (s : State) : hostWrite p s = .next { s with addr := nextPort p } := rfl

/-- After a poll the line is the aggregate (R193). -/
theorem State.poll_lineFollows (s : State) : s.poll.LineFollows := rfl

/-- The room made for a status byte is a well-formed queue once the byte is in. -/
theorem State.statusRoom_push (d : Byte) (s : State) :
    s.statusRoom.push s.params.stsDepth d =
      (if s.statusEvicts then s.sts.toQueue.pop s.params.stsDepth else s.sts.toQueue).push s.params.stsDepth d := by
  unfold State.statusRoom
  split <;> rfl

theorem State.wf_statusAppend {d : Byte} {s : State} (h : s.sts.toQueue.Wf s.params.stsDepth) :
    (s.statusAppend d).sts.toQueue.Wf s.params.stsDepth := by
  show (s.statusRoom.push s.params.stsDepth d).Wf _
  rw [State.statusRoom_push]
  split
  · exact Queue.wf_push d (Queue.wf_pop h)
  · exact Queue.wf_push d h

/-- With no word there, a step keeps the state (log 2). -/
theorem State.fetch_nil {s : State} (h : s.inbox = []) : s.fetch = none := by simp [State.fetch, h]

/-- The next word, with the pointer as it is when the word arrives (R85). -/
theorem State.fetch_cons {s : State} {t : TWord} {rest : List TWord} (h : s.inbox = t :: rest) :
    s.fetch = some (decodeWord s.addr t, { s with inbox := rest }) := by simp [State.fetch, h]

/-- A step that answers a next state is idle or runs the operation that its word decodes to. -/
theorem step_cases {s t : State} (h : step s = .next t) :
    (s.inbox = [] ∧ t = s) ∨ ∃ w rest i, s.inbox = w :: rest ∧ decode (decodeWord s.addr w) = .instr i ∧
      exec i { s with inbox := rest } = .next t := by
  unfold step at h
  cases hin : s.inbox with
  | nil =>
    rw [State.fetch_nil hin] at h
    exact .inl ⟨rfl, (Host.Outcome.next.inj h).symm⟩
  | cons w rest =>
    rw [State.fetch_cons hin] at h
    cases hd : decode (decodeWord s.addr w) with
    | instr i => exact .inr ⟨w, rest, i, rfl, hd, by simpa [hd] using h⟩
    | reject r => simp [hd] at h

end Sys2Proof.Machine
end

