-- ==== Sys2Proof/Laws/Exec.lean ====
section
/-!
SUPPORT. The operations whose meaning branches on the state, inverted once: if the operation answers `next t`, then one of these cases
holds. Every other operation answers `next` of one expression, by rfl.
-/

namespace Sys2Proof.Machine

/-- R101: an empty queue; or a byte taken, with the acknowledge and the poll exactly where it was the last one. -/
theorem execRdComin_cases {s t : State} (h : exec .rdComin s = .next t) :
    (s.cmd.empty = true ∧ t = { s with addr := 0#4, hostData := some 0xFF#8 }) ∨
    (s.cmd.empty = false ∧ ∃ u : State, t = { u with addr := 0#4, hostData := some s.cmd.front } ∧
      (((s.cmd.pop s.params.cmdDepth).empty = true ∧
          u = (State.setCmdPend false { s with cmd := s.cmd.pop s.params.cmdDepth }).poll) ∨
        ((s.cmd.pop s.params.cmdDepth).empty = false ∧ u = { s with cmd := s.cmd.pop s.params.cmdDepth }))) := by
  simp only [exec, execRdComin, hostRead_eq] at h
  cases he : s.cmd.empty
  · simp only [he] at h
    refine .inr ⟨rfl, _, (Host.Outcome.next.inj h).symm, ?_⟩
    cases (s.cmd.pop s.params.cmdDepth).empty <;> simp
  · simp only [he] at h
    exact .inl ⟨rfl, (Host.Outcome.next.inj h).symm⟩

/-- R172: nothing from an empty queue; or the oldest byte taken. -/
theorem execPeerStsPop_cases {s t : State} (h : exec .peerStsPop s = .next t) :
    (s.sts.empty = true ∧ t = s.answerPeer none) ∨
    (s.sts.empty = false ∧ t = State.answerPeer (some s.sts.toQueue.front)
      { s with sts := { s.sts with toQueue := s.sts.toQueue.pop s.params.stsDepth } }) := by
  simp only [exec, execPeerStsPop] at h
  cases he : s.sts.empty
  · simp only [he] at h
    exact .inr ⟨rfl, (Host.Outcome.next.inj h).symm⟩
  · simp only [he] at h
    exact .inl ⟨rfl, (Host.Outcome.next.inj h).symm⟩

/-- R171: a free slot, and the byte written. -/
theorem execPeerCmdPush_cases {s t : State} {b : Byte} (h : exec (.peerCmdPush b) s = .next t) :
    s.cmd.count s.params.cmdDepth < s.params.cmdDepth ∧ t = { s with cmd := s.cmd.push s.params.cmdDepth b } := by
  simp only [exec, execPeerCmdPush] at h
  split at h
  · exact ⟨‹_›, (Host.Outcome.next.inj h).symm⟩
  · cases h

/-- R121: dropped where gated, else appended. -/
theorem execWrSbout_cases {s t : State} {d : Byte} (h : exec (.wrSbout d) s = .next t) :
    (s.statusGated = true ∧ t = { s with addr := 0#4 }) ∨
    (s.statusGated = false ∧ t = { s.statusAppend d with addr := 0#4 }) := by
  cases hg : s.statusGated <;> simp only [exec, execWrSbout, hg] at h
  · exact .inr ⟨rfl, (Host.Outcome.next.inj h).symm⟩
  · exact .inl ⟨rfl, (Host.Outcome.next.inj h).symm⟩

/-- R127: ignored where transfers are disabled, else triggered. -/
theorem execWrDttrg_cases {s t : State} {d : Byte} (h : exec (.wrDttrg d) s = .next t) :
    (s.xfer.enable = false ∧ t = { s with addr := 7#4 }) ∨
    (s.xfer.enable = true ∧ t = { s.triggerTransfer with addr := 7#4 }) := by
  cases he : s.xfer.enable <;> simp only [exec, execWrDttrg, he] at h
  · exact .inl ⟨rfl, (Host.Outcome.next.inj h).symm⟩
  · exact .inr ⟨rfl, (Host.Outcome.next.inj h).symm⟩

/-- R122: with the abort where bit 1 is 0, and without it where bit 1 is 1. -/
theorem execWrIfctrl_cases {s t : State} {d : Byte} (h : exec (.wrIfctrl d) s = .next t) :
    (d[1] = false ∧ t = { (s.loadIfctrl d).poll.abortTransfer with addr := 2#4 }) ∨
    (d[1] = true ∧ t = { (s.loadIfctrl d).poll with addr := 2#4 }) := by
  cases hd : d[1] <;> simp only [exec, execWrIfctrl, hd] at h
  · exact .inl ⟨rfl, (Host.Outcome.next.inj h).symm⟩
  · exact .inr ⟨rfl, (Host.Outcome.next.inj h).symm⟩

end Sys2Proof.Machine
end

