-- ==== Sys2Proof/Laws/Operands.lean ====
section
/-!
SUPPORT. The byte lanes (10_state.md R50): a lane reads back as written, and the other lane keeps its value. The bits of a packed byte.
-/

namespace Sys2Proof.Machine

@[simp] theorem lowByte_setLowByte (v : Addr16) (b : Byte) : lowByte (setLowByte v b) = b := extract_low_append _ _

@[simp] theorem highByte_setLowByte (v : Addr16) (b : Byte) : highByte (setLowByte v b) = highByte v :=
  extract_high_append _ _

@[simp] theorem lowByte_setHighByte (v : Addr16) (b : Byte) : lowByte (setHighByte v b) = lowByte v := extract_low_append _ _

@[simp] theorem highByte_setHighByte (v : Addr16) (b : Byte) : highByte (setHighByte v b) = b := extract_high_append _ _

@[simp] theorem highByte_append_lowByte (v : Addr16) : highByte v ++ lowByte v = v := extract_append_extract (m := 8) (n := 8) v

/-- Writing both lanes gives the whole value, whatever the field held. -/
theorem setHighByte_setLowByte (v : Addr16) (hi lo : Byte) : setHighByte (setLowByte v lo) hi = hi ++ lo :=
  congrArg (hi ++ ·) (lowByte_setLowByte v lo)

@[simp] theorem lengthLow_setLengthLow (v : Length) (b : Byte) : lengthLow (setLengthLow v b) = b := extract_low_append _ _

@[simp] theorem lengthLow_setLengthHigh (v : Length) (b : Byte) : lengthLow (setLengthHigh v b) = lengthLow v :=
  extract_low_append _ _

@[simp] theorem lengthHigh_setLengthLow (v : Length) (b : Byte) : lengthHigh (setLengthLow v b) = lengthHigh v :=
  congrArg (0#4 ++ ·) (extract_high_append (v.extractLsb' 8 4) b)

@[simp] theorem lengthHigh_setLengthHigh (v : Length) (b : Byte) :
    lengthHigh (setLengthHigh v b) = 0#4 ++ b.extractLsb' 0 4 :=
  congrArg (0#4 ++ ·) (extract_high_append (b.extractLsb' 0 4) (v.extractLsb' 0 8))

/-- Writing the low byte and then the high nibble gives the whole length, whatever the field held. -/
theorem setLengthHigh_setLengthLow (v : Length) (hi lo : Byte) :
    setLengthHigh (setLengthLow v lo) hi = hi.extractLsb' 0 4 ++ lo :=
  congrArg (hi.extractLsb' 0 4 ++ ·) (lengthLow_setLengthLow v lo)

section
variable (b7 b6 b5 b4 b3 b2 b1 b0 : Bool)

@[simp] theorem packByte_bit0 : (packByte b7 b6 b5 b4 b3 b2 b1 b0)[0] = b0 := by
  decide +revert
@[simp] theorem packByte_bit1 : (packByte b7 b6 b5 b4 b3 b2 b1 b0)[1] = b1 := by
  decide +revert
@[simp] theorem packByte_bit2 : (packByte b7 b6 b5 b4 b3 b2 b1 b0)[2] = b2 := by
  decide +revert
@[simp] theorem packByte_bit3 : (packByte b7 b6 b5 b4 b3 b2 b1 b0)[3] = b3 := by
  decide +revert
@[simp] theorem packByte_bit4 : (packByte b7 b6 b5 b4 b3 b2 b1 b0)[4] = b4 := by
  decide +revert
@[simp] theorem packByte_bit5 : (packByte b7 b6 b5 b4 b3 b2 b1 b0)[5] = b5 := by
  decide +revert
@[simp] theorem packByte_bit6 : (packByte b7 b6 b5 b4 b3 b2 b1 b0)[6] = b6 := by
  decide +revert
@[simp] theorem packByte_bit7 : (packByte b7 b6 b5 b4 b3 b2 b1 b0)[7] = b7 := by
  decide +revert

end

end Sys2Proof.Machine
end

