-- ==== Sys2Proof/Laws/PerInstr.lean ====
section
/-!
SUPPORT. Statements made per operation. `SelectsRow`: a well-formed operation's decode word, whatever the pointer, selects the row that
spec/opcode_table.json gives the operation (30_encoding.md R85).
-/

namespace Sys2Proof.Laws.SelectsRow

/-- The reserved nibble of PEER_LEN_HI. -/
theorem and_high_nibble {b : Byte} (h : (Instr.peerLenHi b).WellFormed) : b &&& 0xF0#8 = 0#8 := by
  revert h; decide +revert

/-- The word of `i` at any pointer selects the row of `i`. -/
def Statement (i : Instr) : Prop := ∀ addr : Port, i.WellFormed → i.row.Selects (encodeAt addr i)

theorem rdComin : Statement .rdComin := fun _ _ =>
  (OpcodeRow.selects_toDWord_iff _ _).2 (by simp [Instr.fieldsAt, Instr.row, DWord.fields])

theorem rdIfstat : Statement .rdIfstat := fun _ _ =>
  (OpcodeRow.selects_toDWord_iff _ _).2 (by simp [Instr.fieldsAt, Instr.row, DWord.fields])

theorem rdDbcl : Statement .rdDbcl := fun _ _ =>
  (OpcodeRow.selects_toDWord_iff _ _).2 (by simp [Instr.fieldsAt, Instr.row, DWord.fields])

theorem rdDbch : Statement .rdDbch := fun _ _ =>
  (OpcodeRow.selects_toDWord_iff _ _).2 (by simp [Instr.fieldsAt, Instr.row, DWord.fields])

theorem rdHead0 : Statement .rdHead0 := fun _ _ =>
  (OpcodeRow.selects_toDWord_iff _ _).2 (by simp [Instr.fieldsAt, Instr.row, DWord.fields])

theorem rdHead1 : Statement .rdHead1 := fun _ _ =>
  (OpcodeRow.selects_toDWord_iff _ _).2 (by simp [Instr.fieldsAt, Instr.row, DWord.fields])

theorem rdHead2 : Statement .rdHead2 := fun _ _ =>
  (OpcodeRow.selects_toDWord_iff _ _).2 (by simp [Instr.fieldsAt, Instr.row, DWord.fields])

theorem rdHead3 : Statement .rdHead3 := fun _ _ =>
  (OpcodeRow.selects_toDWord_iff _ _).2 (by simp [Instr.fieldsAt, Instr.row, DWord.fields])

theorem rdPtl : Statement .rdPtl := fun _ _ =>
  (OpcodeRow.selects_toDWord_iff _ _).2 (by simp [Instr.fieldsAt, Instr.row, DWord.fields])

theorem rdPth : Statement .rdPth := fun _ _ =>
  (OpcodeRow.selects_toDWord_iff _ _).2 (by simp [Instr.fieldsAt, Instr.row, DWord.fields])

theorem rdWal : Statement .rdWal := fun _ _ =>
  (OpcodeRow.selects_toDWord_iff _ _).2 (by simp [Instr.fieldsAt, Instr.row, DWord.fields])

theorem rdWah : Statement .rdWah := fun _ _ =>
  (OpcodeRow.selects_toDWord_iff _ _).2 (by simp [Instr.fieldsAt, Instr.row, DWord.fields])

theorem rdStat0 : Statement .rdStat0 := fun _ _ =>
  (OpcodeRow.selects_toDWord_iff _ _).2 (by simp [Instr.fieldsAt, Instr.row, DWord.fields])

theorem rdStat1 : Statement .rdStat1 := fun _ _ =>
  (OpcodeRow.selects_toDWord_iff _ _).2 (by simp [Instr.fieldsAt, Instr.row, DWord.fields])

theorem rdStat2 : Statement .rdStat2 := fun _ _ =>
  (OpcodeRow.selects_toDWord_iff _ _).2 (by simp [Instr.fieldsAt, Instr.row, DWord.fields])

theorem rdStat3 : Statement .rdStat3 := fun _ _ =>
  (OpcodeRow.selects_toDWord_iff _ _).2 (by simp [Instr.fieldsAt, Instr.row, DWord.fields])

theorem wrSbout (d : Byte) : Statement (.wrSbout d) := fun _ _ =>
  (OpcodeRow.selects_toDWord_iff _ _).2 (by simp [Instr.fieldsAt, Instr.row, DWord.fields])

theorem wrIfctrl (d : Byte) : Statement (.wrIfctrl d) := fun _ _ =>
  (OpcodeRow.selects_toDWord_iff _ _).2 (by simp [Instr.fieldsAt, Instr.row, DWord.fields])

theorem wrDbcl (d : Byte) : Statement (.wrDbcl d) := fun _ _ =>
  (OpcodeRow.selects_toDWord_iff _ _).2 (by simp [Instr.fieldsAt, Instr.row, DWord.fields])

theorem wrDbch (d : Byte) : Statement (.wrDbch d) := fun _ _ =>
  (OpcodeRow.selects_toDWord_iff _ _).2 (by simp [Instr.fieldsAt, Instr.row, DWord.fields])

theorem wrDacl (d : Byte) : Statement (.wrDacl d) := fun _ _ =>
  (OpcodeRow.selects_toDWord_iff _ _).2 (by simp [Instr.fieldsAt, Instr.row, DWord.fields])

theorem wrDach (d : Byte) : Statement (.wrDach d) := fun _ _ =>
  (OpcodeRow.selects_toDWord_iff _ _).2 (by simp [Instr.fieldsAt, Instr.row, DWord.fields])

theorem wrDttrg (d : Byte) : Statement (.wrDttrg d) := fun _ _ =>
  (OpcodeRow.selects_toDWord_iff _ _).2 (by simp [Instr.fieldsAt, Instr.row, DWord.fields])

theorem wrDtack (d : Byte) : Statement (.wrDtack d) := fun _ _ =>
  (OpcodeRow.selects_toDWord_iff _ _).2 (by simp [Instr.fieldsAt, Instr.row, DWord.fields])

theorem wrPtl (d : Byte) : Statement (.wrPtl d) := fun _ _ =>
  (OpcodeRow.selects_toDWord_iff _ _).2 (by simp [Instr.fieldsAt, Instr.row, DWord.fields])

theorem wrPth (d : Byte) : Statement (.wrPth d) := fun _ _ =>
  (OpcodeRow.selects_toDWord_iff _ _).2 (by simp [Instr.fieldsAt, Instr.row, DWord.fields])

theorem wrCtrl0 (d : Byte) : Statement (.wrCtrl0 d) := fun _ _ =>
  (OpcodeRow.selects_toDWord_iff _ _).2 (by simp [Instr.fieldsAt, Instr.row, DWord.fields])

theorem wrCtrl1 (d : Byte) : Statement (.wrCtrl1 d) := fun _ _ =>
  (OpcodeRow.selects_toDWord_iff _ _).2 (by simp [Instr.fieldsAt, Instr.row, DWord.fields])

theorem wrWal (d : Byte) : Statement (.wrWal d) := fun _ _ =>
  (OpcodeRow.selects_toDWord_iff _ _).2 (by simp [Instr.fieldsAt, Instr.row, DWord.fields])

theorem wrWah (d : Byte) : Statement (.wrWah d) := fun _ _ =>
  (OpcodeRow.selects_toDWord_iff _ _).2 (by simp [Instr.fieldsAt, Instr.row, DWord.fields])

theorem wrCtrl2 (d : Byte) : Statement (.wrCtrl2 d) := fun _ _ =>
  (OpcodeRow.selects_toDWord_iff _ _).2 (by simp [Instr.fieldsAt, Instr.row, DWord.fields])

theorem wrReset (d : Byte) : Statement (.wrReset d) := fun _ _ =>
  (OpcodeRow.selects_toDWord_iff _ _).2 (by simp [Instr.fieldsAt, Instr.row, DWord.fields])

theorem awr (a : Port) : Statement (.awr a) := fun _ _ =>
  (OpcodeRow.selects_toDWord_iff _ _).2 (by
    simp [Instr.fieldsAt, Instr.row, DWord.fields]; decide +revert)

theorem tick : Statement .tick := fun _ _ =>
  (OpcodeRow.selects_toDWord_iff _ _).2 (by simp [Instr.fieldsAt, Instr.sysFields, Instr.row, DWord.fields])

theorem power (r : Bool) : Statement (.power r) := fun _ _ =>
  (OpcodeRow.selects_toDWord_iff _ _).2 (by
    simp [Instr.fieldsAt, Instr.sysFields, Instr.row, DWord.fields]; decide +revert)

theorem peerCmdPush (b : Byte) : Statement (.peerCmdPush b) := fun _ _ =>
  (OpcodeRow.selects_toDWord_iff _ _).2 (by simp [Instr.fieldsAt, Instr.sysFields, Instr.row, DWord.fields])

theorem peerStsPop : Statement .peerStsPop := fun _ _ =>
  (OpcodeRow.selects_toDWord_iff _ _).2 (by simp [Instr.fieldsAt, Instr.sysFields, Instr.row, DWord.fields])

theorem peerSetPendDec : Statement .peerSetPendDec := fun _ _ =>
  (OpcodeRow.selects_toDWord_iff _ _).2 (by simp [Instr.fieldsAt, Instr.sysFields, Instr.row, DWord.fields])

theorem peerSetPendXfer : Statement .peerSetPendXfer := fun _ _ =>
  (OpcodeRow.selects_toDWord_iff _ _).2 (by simp [Instr.fieldsAt, Instr.sysFields, Instr.row, DWord.fields])

theorem peerSetPendCmd : Statement .peerSetPendCmd := fun _ _ =>
  (OpcodeRow.selects_toDWord_iff _ _).2 (by simp [Instr.fieldsAt, Instr.sysFields, Instr.row, DWord.fields])

theorem peerHdr0 (b : Byte) : Statement (.peerHdr0 b) := fun _ _ =>
  (OpcodeRow.selects_toDWord_iff _ _).2 (by simp [Instr.fieldsAt, Instr.sysFields, Instr.row, DWord.fields])

theorem peerHdr1 (b : Byte) : Statement (.peerHdr1 b) := fun _ _ =>
  (OpcodeRow.selects_toDWord_iff _ _).2 (by simp [Instr.fieldsAt, Instr.sysFields, Instr.row, DWord.fields])

theorem peerHdr2 (b : Byte) : Statement (.peerHdr2 b) := fun _ _ =>
  (OpcodeRow.selects_toDWord_iff _ _).2 (by simp [Instr.fieldsAt, Instr.sysFields, Instr.row, DWord.fields])

theorem peerHdr3 (b : Byte) : Statement (.peerHdr3 b) := fun _ _ =>
  (OpcodeRow.selects_toDWord_iff _ _).2 (by simp [Instr.fieldsAt, Instr.sysFields, Instr.row, DWord.fields])

theorem peerShdr0 (b : Byte) : Statement (.peerShdr0 b) := fun _ _ =>
  (OpcodeRow.selects_toDWord_iff _ _).2 (by simp [Instr.fieldsAt, Instr.sysFields, Instr.row, DWord.fields])

theorem peerShdr1 (b : Byte) : Statement (.peerShdr1 b) := fun _ _ =>
  (OpcodeRow.selects_toDWord_iff _ _).2 (by simp [Instr.fieldsAt, Instr.sysFields, Instr.row, DWord.fields])

theorem peerShdr2 (b : Byte) : Statement (.peerShdr2 b) := fun _ _ =>
  (OpcodeRow.selects_toDWord_iff _ _).2 (by simp [Instr.fieldsAt, Instr.sysFields, Instr.row, DWord.fields])

theorem peerShdr3 (b : Byte) : Statement (.peerShdr3 b) := fun _ _ =>
  (OpcodeRow.selects_toDWord_iff _ _).2 (by simp [Instr.fieldsAt, Instr.sysFields, Instr.row, DWord.fields])

theorem peerStsFlags (act : Bool) (busy : Bool) : Statement (.peerStsFlags act busy) := fun _ _ =>
  (OpcodeRow.selects_toDWord_iff _ _).2 (by
    simp [Instr.fieldsAt, Instr.sysFields, Instr.row, DWord.fields]; decide +revert)

theorem peerXferFlags (act : Bool) (busy : Bool) (ready : Bool) (done : Bool) : Statement (.peerXferFlags act busy ready done) := fun _ _ =>
  (OpcodeRow.selects_toDWord_iff _ _).2 (by
    simp [Instr.fieldsAt, Instr.sysFields, Instr.row, DWord.fields]; decide +revert)

theorem peerDest (n : Dest) : Statement (.peerDest n) := fun _ _ =>
  (OpcodeRow.selects_toDWord_iff _ _).2 (by
    simp [Instr.fieldsAt, Instr.sysFields, Instr.row, DWord.fields]; decide +revert)

theorem peerLenLo (b : Byte) : Statement (.peerLenLo b) := fun _ _ =>
  (OpcodeRow.selects_toDWord_iff _ _).2 (by simp [Instr.fieldsAt, Instr.sysFields, Instr.row, DWord.fields])

theorem peerLenHi (b : Byte) : Statement (.peerLenHi b) := fun _ h =>
  (OpcodeRow.selects_toDWord_iff _ _).2 (by simpa [Instr.fieldsAt, Instr.sysFields, Instr.row, DWord.fields] using and_high_nibble h)

theorem peerPtrLo (b : Byte) : Statement (.peerPtrLo b) := fun _ _ =>
  (OpcodeRow.selects_toDWord_iff _ _).2 (by simp [Instr.fieldsAt, Instr.sysFields, Instr.row, DWord.fields])

theorem peerPtrHi (b : Byte) : Statement (.peerPtrHi b) := fun _ _ =>
  (OpcodeRow.selects_toDWord_iff _ _).2 (by simp [Instr.fieldsAt, Instr.sysFields, Instr.row, DWord.fields])

theorem peerTgtLo (b : Byte) : Statement (.peerTgtLo b) := fun _ _ =>
  (OpcodeRow.selects_toDWord_iff _ _).2 (by simp [Instr.fieldsAt, Instr.sysFields, Instr.row, DWord.fields])

theorem peerTgtHi (b : Byte) : Statement (.peerTgtHi b) := fun _ _ =>
  (OpcodeRow.selects_toDWord_iff _ _).2 (by simp [Instr.fieldsAt, Instr.sysFields, Instr.row, DWord.fields])

theorem peerSrcLo (b : Byte) : Statement (.peerSrcLo b) := fun _ _ =>
  (OpcodeRow.selects_toDWord_iff _ _).2 (by simp [Instr.fieldsAt, Instr.sysFields, Instr.row, DWord.fields])

theorem peerSrcHi (b : Byte) : Statement (.peerSrcHi b) := fun _ _ =>
  (OpcodeRow.selects_toDWord_iff _ _).2 (by simp [Instr.fieldsAt, Instr.sysFields, Instr.row, DWord.fields])

end Sys2Proof.Laws.SelectsRow
end

