-- ==== Sys2Proof/Tests/Slice0.lean ====
section
/-!
SUPPORT. Tests whose expected results come from the spec (95_test_vectors.md and the rules' own examples, named in each comment), the
smoke tests of the well-formedness checks, and for every statement with hypotheses a witness that meets them.
-/

namespace Sys2Proof.Tests

open Sys2Proof.Machine

/-! ## Helpers -/

/-- The next state, where there is one. -/
def stateOf : Answer → Option State
  | .next t => some t
  | .fault _ => none
  | .refused _ => none

/-- The refusal, where there is one. -/
def refusalOf : Answer → Option Refusal
  | .next _ => none
  | .fault _ => none
  | .refused r => some r

/-- What field `f` of the next state is after `i` on `s`. -/
def after {α : Type} (i : Instr) (s : State) (f : State → α) : Option α := (stateOf (exec i s)).map f

/-- The power state P of 95_test_vectors.md. -/
abbrev P : State := State.reset

/-- A queue of depth 8 that holds these bytes from slot 0 on. -/
def queueOf (bytes : List Byte) : Queue :=
  { fifo := bytes ++ List.replicate (8 - bytes.length) 0#8, read := 0, write := bytes.length % 8, empty := bytes.isEmpty }

/-- `s` with these unread command bytes. -/
def withCmd (bytes : List Byte) (s : State) : State := { s with cmd := queueOf bytes }

/-- `s` with these unread status bytes. -/
def withSts (bytes : List Byte) (s : State) : State := { s with sts := { s.sts with toQueue := queueOf bytes } }

/-- `s` with these interrupt flags. -/
def withIrq (dec xfer cmd : IrqSource) (out : Bool) (s : State) : State := { s with irq := ⟨dec, xfer, cmd⟩, irqOut := out }

/-- An idle source, an enabled one, a pending one, and one that is both. -/
abbrev idle : IrqSource := ⟨false, false⟩
abbrev enabled : IrqSource := ⟨true, false⟩
abbrev pending : IrqSource := ⟨false, true⟩
abbrev asserting : IrqSource := ⟨true, true⟩

/-- `P` with a transfer changed. -/
def withXfer (f : Transfer → Transfer) (s : State) : State := { s with xfer := f s.xfer }

/-! ## Well-formedness smoke tests: one ill-formed term for each check -/

theorem test_wf_lenHi_refuses : ¬ (Instr.peerLenHi 0x10#8).WellFormed := by decide
theorem test_wf_lenHi_accepts : (Instr.peerLenHi 0x0F#8).WellFormed := by decide
theorem test_params_stsDepth_refuses : ¬ ({ Params.default with stsIndexBits := 0 } : Params).Legal := by decide
theorem test_params_cntWidth_refuses : ¬ ({ Params.default with cntWidth := 0 } : Params).Legal := by decide
theorem test_params_dests_length_refuses : ¬ ({ Params.default with cpuReadDests := [2#2] } : Params).Legal := by decide
theorem test_params_dests_repeat_refuses : ¬ ({ Params.default with cpuReadDests := [2#2, 2#2] } : Params).Legal := by decide
theorem test_queue_length_refuses : ¬ Queue.Wf 8 ⟨[], 0, 0, true⟩ := by decide
theorem test_queue_read_refuses : ¬ Queue.Wf 8 { queueOf [1#8] with read := 8 } := by decide
theorem test_queue_write_refuses : ¬ Queue.Wf 8 { queueOf [1#8] with write := 8 } := by decide
theorem test_queue_empty_refuses : ¬ Queue.Wf 8 { queueOf [1#8] with empty := true } := by decide

/-! ## Decoding: every constructor from a word written out from R81 to R84 and R91 -/

theorem test_decode_reads :
    decode 0x00000#20 = .instr .rdComin ∧ decode 0x10000#20 = .instr .rdIfstat ∧ decode 0x20000#20 = .instr .rdDbcl ∧
    decode 0x30000#20 = .instr .rdDbch ∧ decode 0x40000#20 = .instr .rdHead0 ∧ decode 0x50000#20 = .instr .rdHead1 ∧
    decode 0x60000#20 = .instr .rdHead2 ∧ decode 0x70000#20 = .instr .rdHead3 ∧ decode 0x80000#20 = .instr .rdPtl ∧
    decode 0x90000#20 = .instr .rdPth ∧ decode 0xA0000#20 = .instr .rdWal ∧ decode 0xB0000#20 = .instr .rdWah ∧
    decode 0xC0000#20 = .instr .rdStat0 ∧ decode 0xD0000#20 = .instr .rdStat1 ∧ decode 0xE0000#20 = .instr .rdStat2 ∧
    decode 0xF0000#20 = .instr .rdStat3 := by decide

theorem test_decode_writes :
    decode 0x04055#20 = .instr (.wrSbout 0x55#8) ∧ decode 0x14080#20 = .instr (.wrIfctrl 0x80#8) ∧
    decode 0x24034#20 = .instr (.wrDbcl 0x34#8) ∧ decode 0x34002#20 = .instr (.wrDbch 0x02#8) ∧
    decode 0x440CD#20 = .instr (.wrDacl 0xCD#8) ∧ decode 0x540AB#20 = .instr (.wrDach 0xAB#8) ∧
    decode 0x64000#20 = .instr (.wrDttrg 0x00#8) ∧ decode 0x74001#20 = .instr (.wrDtack 0x01#8) ∧
    decode 0x84034#20 = .instr (.wrPtl 0x34#8) ∧ decode 0x94012#20 = .instr (.wrPth 0x12#8) ∧
    decode 0xA4090#20 = .instr (.wrCtrl0 0x90#8) ∧ decode 0xB400C#20 = .instr (.wrCtrl1 0x0C#8) ∧
    decode 0xC40EF#20 = .instr (.wrWal 0xEF#8) ∧ decode 0xD40BE#20 = .instr (.wrWah 0xBE#8) ∧
    decode 0xE4007#20 = .instr (.wrCtrl2 0x07#8) ∧ decode 0xF4000#20 = .instr (.wrReset 0x00#8) := by decide

theorem test_decode_pointer_and_sys :
    decode 0x2800F#20 = .instr (.awr 15#4) ∧ decode 0x5C000#20 = .instr .tick ∧ decode 0x0C101#20 = .instr (.power true) ∧
    decode 0x0C212#20 = .instr (.peerCmdPush 0x12#8) ∧ decode 0x0C300#20 = .instr .peerStsPop ∧
    decode 0x0C400#20 = .instr .peerSetPendDec ∧ decode 0x0C401#20 = .instr .peerSetPendXfer ∧
    decode 0x0C402#20 = .instr .peerSetPendCmd ∧
    decode 0x0D002#20 = .instr (.peerHdr0 0x02#8) ∧ decode 0x0D103#20 = .instr (.peerHdr1 0x03#8) ∧
    decode 0x0D204#20 = .instr (.peerHdr2 0x04#8) ∧ decode 0x0D305#20 = .instr (.peerHdr3 0x05#8) ∧
    decode 0x0D406#20 = .instr (.peerShdr0 0x06#8) ∧ decode 0x0D507#20 = .instr (.peerShdr1 0x07#8) ∧
    decode 0x0D664#20 = .instr (.peerShdr2 0x64#8) ∧ decode 0x0D709#20 = .instr (.peerShdr3 0x09#8) := by decide

theorem test_decode_peer_flags_and_fields :
    decode 0x0D801#20 = .instr (.peerStsFlags true false) ∧ decode 0x0D802#20 = .instr (.peerStsFlags false true) ∧
    decode 0x0D908#20 = .instr (.peerXferFlags false false false true) ∧
    decode 0x0D906#20 = .instr (.peerXferFlags false true true false) ∧
    decode 0x6DA03#20 = .instr (.peerDest 3#2) ∧
    decode 0x0DBBC#20 = .instr (.peerLenLo 0xBC#8) ∧ decode 0x0DC0A#20 = .instr (.peerLenHi 0x0A#8) ∧
    decode 0x0DD00#20 = .instr (.peerPtrLo 0x00#8) ∧ decode 0x0DE01#20 = .instr (.peerPtrHi 0x01#8) ∧
    decode 0x0DFEF#20 = .instr (.peerTgtLo 0xEF#8) ∧ decode 0x0E0BE#20 = .instr (.peerTgtHi 0xBE#8) ∧
    decode 0x0E1CD#20 = .instr (.peerSrcLo 0xCD#8) ∧ decode 0x0E2AB#20 = .instr (.peerSrcHi 0xAB#8) := by decide

/-- The refused words of 95_test_vectors.md section 2.6. -/
theorem test_decode_refused :
    decode 0x00001#20 = .reject .reservedBits ∧ decode 0x04100#20 = .reject .reservedBits ∧
    decode 0x08010#20 = .reject .reservedBits ∧ decode 0x0C001#20 = .reject .reservedBits ∧
    decode 0x0C102#20 = .reject .reservedBits ∧ decode 0x0C403#20 = .reject .unassignedPendSource ∧
    decode 0x0C500#20 = .reject (.unassignedSysop 5#6) ∧ decode 0x0D80F#20 = .reject .reservedBits ∧
    decode 0x0DC10#20 = .reject .reservedBits ∧ decode 0x0E300#20 = .reject (.unassignedSysop 0x23#6) ∧
    decode 0x0FFFF#20 = .reject (.unassignedSysop 0x3F#6) := by decide

/-- The words of R91. -/
theorem test_encode_words :
    encode .rdStat3 = 0x0000#16 ∧ encode (.wrCtrl0 0x90#8) = 0x4090#16 ∧ encode (.awr 12#4) = 0x800C#16 ∧
    encode .tick = 0xC000#16 ∧ encode (.power true) = 0xC101#16 ∧ encode .peerSetPendCmd = 0xC402#16 ∧
    encode (.peerShdr2 0x64#8) = 0xD664#16 ∧ encode (.peerStsFlags false true) = 0xD802#16 ∧
    encode (.peerXferFlags false false false true) = 0xD908#16 ∧ encode (.peerSrcHi 0xAB#8) = 0xE2AB#16 := by decide

theorem test_opcode_table_has_59_rows : opcodeTable.length = 59 := by decide

/-- The host's numbering: bits 15:0 are T, bits 19:16 the pointer nibble. -/
theorem test_decodeTableWord :
    decodeTableWord 24 0xA4090 = some (.wrCtrl0 0x90#8) ∧ decodeTableWord 16 0x800C = some (.awr 12#4) ∧
    decodeTableWord 24 0x100000 = none := by decide

/-- The word placed runs as the very next step, at its own port (log 2). -/
theorem test_withFetchWord :
    (stateOf (step (P.withFetchWord 24 0xE4007))).map (fun t => (t.addr, t.ctl.stenctl, t.inbox)) = some (15#4, true, []) := by
  decide

theorem test_withFetchWord_keeps_pointer :
    (({ P with addr := 6#4 } : State).withFetchWord 24 0xDA03).addr = 6#4 := by decide

/-! ## Reads (95_test_vectors.md section 2.1) -/

/-- R-1. -/
theorem test_comin_drains :
    after .rdComin (withIrq idle idle asserting true (withCmd [0x12#8] P))
      (fun t => (t.hostData, t.cmd.empty, t.cmd.read, t.irq.cmd.pend, t.irqOut, t.addr)) =
    some (some 0x12#8, true, 1, false, false, 0#4) := by decide

/-- R-4: a full queue gives its oldest byte and stays non-empty. -/
theorem test_comin_full :
    after .rdComin (withCmd [1#8, 2#8, 3#8, 4#8, 5#8, 6#8, 7#8, 8#8] P)
      (fun t => (t.hostData, t.cmd.read, t.cmd.empty, t.cmd.count 8)) = some (some 1#8, 1, false, 7) := by decide

/-- R-9: the pending flags of R-8 and a host status write. -/
theorem test_ifstat :
    after .rdIfstat { withIrq pending pending idle false P with sts := { P.sts with active := true, busy := true } }
      (fun t => (t.hostData, t.addr)) = some (some 0x9A#8, 2#4) := by decide

/-- R-10. -/
theorem test_ifstat_transfer :
    after .rdIfstat (withXfer (fun x => { x with active := true, busy := true }) P) (·.hostData) = some (some 0xF5#8) := by decide

/-- R-12. -/
theorem test_dbcl : after .rdDbcl (withXfer (fun x => { x with length := 0xABC#12 }) P) (fun t => (t.hostData, t.addr)) =
    some (some 0xBC#8, 3#4) := by decide
theorem test_dbch : after .rdDbch (withXfer (fun x => { x with length := 0xABC#12 }) P) (fun t => (t.hostData, t.addr)) =
    some (some 0x0A#8, 4#4) := by decide

/-- The state of R-13 and R-14. -/
def headState (head : Bool) : State :=
  { P with hdr := ⟨1#8, 2#8, 3#8, 4#8⟩, shdr := ⟨5#8, 6#8, 7#8, 8#8⟩, ctl := { P.ctl with head := head } }

/-- R-13, R-14. -/
theorem test_head0 : after .rdHead0 (headState false) (·.hostData) = some (some 1#8) ∧
    after .rdHead0 (headState true) (·.hostData) = some (some 5#8) := by decide
theorem test_head1 : after .rdHead1 (headState false) (·.hostData) = some (some 2#8) ∧
    after .rdHead1 (headState true) (·.hostData) = some (some 6#8) := by decide
theorem test_head2 : after .rdHead2 (headState false) (·.hostData) = some (some 3#8) ∧
    after .rdHead2 (headState true) (·.hostData) = some (some 7#8) := by decide
theorem test_head3 : after .rdHead3 (headState false) (·.hostData) = some (some 4#8) ∧
    after .rdHead3 (headState true) (fun t => (t.hostData, t.addr)) = some (some 8#8, 8#4) := by decide

/-- R-15. -/
theorem test_ptl : after .rdPtl (withXfer (fun x => { x with pointer := 0x1234#16 }) P) (·.hostData) = some (some 0x34#8) := by
  decide
theorem test_pth : after .rdPth (withXfer (fun x => { x with pointer := 0x1234#16 }) P) (fun t => (t.hostData, t.addr)) =
    some (some 0x12#8, 10#4) := by decide

/-- R-16. -/
theorem test_wal : after .rdWal (withXfer (fun x => { x with target := 0xBEEF#16 }) P) (·.hostData) = some (some 0xEF#8) := by
  decide
theorem test_wah : after .rdWah (withXfer (fun x => { x with target := 0xBEEF#16 }) P) (fun t => (t.hostData, t.addr)) =
    some (some 0xBE#8, 12#4) := by decide

/-- R-18, and R-17: STAT0 is not the target. -/
theorem test_stat0 : after .rdStat0 { P with dec := ⟨true, false, false⟩ } (·.hostData) = some (some 0x80#8) ∧
    after .rdStat0 (withXfer (fun x => { x with target := 0xBEEF#16 }) P) (·.hostData) = some (some 0x00#8) := by decide
/-- R-19. -/
theorem test_stat1 : after .rdStat1 P (fun t => (t.hostData, t.addr)) = some (some 0x00#8, 14#4) := by decide
/-- R-20 to R-22. -/
theorem test_stat2 : after .rdStat2 { P with dec := ⟨false, true, true⟩ } (·.hostData) = some (some 0x0C#8) ∧
    after .rdStat2 { P with dec := ⟨false, true, false⟩ } (·.hostData) = some (some 0x08#8) ∧
    after .rdStat2 { P with dec := ⟨false, false, true⟩ } (·.hostData) = some (some 0x04#8) := by decide
/-- R-23, R-24. -/
theorem test_stat3 : after .rdStat3 (withIrq asserting idle idle true P)
      (fun t => (t.hostData, t.irq.dec.pend, t.irqOut, t.addr)) = some (some 0x80#8, false, false, 0#4) ∧
    after .rdStat3 (withIrq asserting idle asserting true P) (fun t => (t.irq.dec.pend, t.irqOut)) = some (false, true) := by decide

/-! ## Writes (section 2.2) -/

/-- A full status queue under `STS_EVICT = FULL`. -/
def fullStatus : State :=
  { withSts [1#8, 2#8, 3#8, 4#8, 5#8, 6#8, 7#8, 8#8] P with params := { Params.default with stsEvict := .full } }

/-- A state whose status writes are gated (the start of W-2). -/
def gated : State := withXfer (fun x => { x with busy := true }) { P with sts := { P.sts with wait := true } }

/-- W-2. -/
theorem test_sbout_dropped : stateOf (exec (.wrSbout 0x11#8) gated) = some gated := by decide
/-- W-5, and W-7's ninth write: `STS_EVICT = FULL` on a full queue. -/
theorem test_sbout_evicts : after (.wrSbout 0xA2#8) (withSts [0xA1#8] P)
    (fun t => ([t.sts.read, t.sts.write], t.stsContents, [t.sts.active, t.sts.busy], t.addr)) =
    some ([1, 2], [0xA2#8], [true, true], 0#4) ∧ after (.wrSbout 9#8) fullStatus
    (fun t => (t.sts.read, t.sts.write, t.stsContents)) = some (1, 1, [2#8, 3#8, 4#8, 5#8, 6#8, 7#8, 8#8, 9#8]) := by decide
/-- W-10. -/
theorem test_ifctrl_aborts :
    after (.wrIfctrl 0x40#8)
      (withXfer (fun x => { x with enable := true, active := true, busy := true }) (withIrq idle pending idle false P))
      (fun t => [t.xfer.enable, t.xfer.active, t.xfer.busy, t.irq.xfer.en, t.irqOut, t.sts.wait, t.xfer.wait, t.ctl.cmdbrk]) =
    some [false, false, false, true, true, true, true, true] := by decide
/-- W-8. -/
theorem test_ifctrl_all : after (.wrIfctrl 0xFF#8) P
    (fun t => ([t.sts.enable, t.xfer.enable, t.sts.wait, t.xfer.wait, t.ctl.cmdbrk, t.irqOut], t.irq, t.addr)) =
    some ([true, true, false, false, false, false], ⟨enabled, enabled, enabled⟩, 2#4) := by decide
/-- W-12. -/
theorem test_wrDbcl : after (.wrDbcl 0x12#8) (withXfer (fun x => { x with length := 0x500#12 }) P)
    (fun t => (t.xfer.length, t.addr)) = some (0x512#12, 3#4) := by decide
/-- W-13. -/
theorem test_wrDbch : after (.wrDbch 0xF7#8) (withXfer (fun x => { x with length := 0x012#12 }) P)
    (fun t => (t.xfer.length, t.addr)) = some (0x712#12, 4#4) := by decide
/-- W-14, one byte at a time. -/
theorem test_wrDacl : after (.wrDacl 0xCD#8) P (·.xfer.source) = some 0x00CD#16 := by decide
theorem test_wrDach : after (.wrDach 0xAB#8) (withXfer (fun x => { x with source := 0x00CD#16 }) P)
    (fun t => (t.xfer.source, t.addr)) = some (0xABCD#16, 6#4) := by decide
/-- W-15, W-16. -/
theorem test_dttrg : after (.wrDttrg 0#8) (withXfer (fun x => { x with ready := true }) P)
      (fun t => (t.xfer.active, t.xfer.ready, t.addr)) = some (false, true, 7#4) ∧
    after (.wrDttrg 0#8) (withXfer (fun x => { x with enable := true, ready := true, done := true }) P)
      (fun t => (t.xfer.active, t.xfer.busy, t.xfer.ready, t.xfer.done)) = some (true, true, false, false) := by decide
/-- W-17, W-18. -/
theorem test_dttrg_dest : after (.wrDttrg 0#8) (withXfer (fun x => { x with enable := true, dest := 2#2 }) P) (·.xfer.ready) =
      some true ∧
    after (.wrDttrg 0#8) (withXfer (fun x => { x with enable := true, dest := 1#2 }) P) (·.xfer.ready) = some false := by decide
/-- W-19, W-20. -/
theorem test_dtack : after (.wrDtack 0#8) (withIrq idle asserting idle true P) (fun t => (t.irq.xfer.pend, t.irqOut, t.addr)) =
      some (false, false, 8#4) ∧
    after (.wrDtack 0#8) (withIrq idle asserting asserting true P) (fun t => (t.irq.xfer.pend, t.irqOut)) = some (false, true) := by
  decide
/-- W-21, one byte at a time. -/
theorem test_wrPtl : after (.wrPtl 0x34#8) P (fun t => (t.xfer.pointer, t.addr)) = some (0x0034#16, 9#4) := by decide
theorem test_wrPth : after (.wrPth 0x12#8) (withXfer (fun x => { x with pointer := 0x0034#16 }) P)
    (fun t => (t.xfer.pointer, t.addr)) = some (0x1234#16, 10#4) := by decide
/-- W-22, W-23. -/
theorem test_ctrl0 : after (.wrCtrl0 0x90#8) { P with ctl := { P.ctl with formrq := true } }
      (fun t => (t.ctl.autorq, t.dec, t.addr)) = some (true, ⟨true, false, true⟩, 11#4) ∧
    after (.wrCtrl0 0x40#8) { P with ctl := { P.ctl with formrq := true, autorq := true }, dec := ⟨true, false, true⟩ }
      (fun t => (t.ctl.autorq, t.dec)) = some (false, ⟨false, false, false⟩) := by decide
/-- W-24, W-25. -/
theorem test_ctrl1 : after (.wrCtrl1 0x0D#8) { P with ctl := { P.ctl with autorq := true } }
      (fun t => (t.ctl.head, t.ctl.formrq, t.ctl.modrq, t.dec, t.addr)) = some (true, true, true, ⟨false, true, true⟩, 12#4) ∧
    after (.wrCtrl1 0x0C#8) P (·.dec) = some ⟨false, true, false⟩ := by decide
/-- W-26, one byte at a time. -/
theorem test_wrWal : after (.wrWal 0xEF#8) P (fun t => (t.xfer.target, t.addr)) = some (0x00EF#16, 13#4) := by decide
theorem test_wrWah : after (.wrWah 0xBE#8) (withXfer (fun x => { x with target := 0x00EF#16 }) P)
    (fun t => (t.xfer.target, t.addr)) = some (0xBEEF#16, 14#4) := by decide
/-- W-27. -/
theorem test_ctrl2 : after (.wrCtrl2 0xFF#8) P (fun t => (t.ctl.stentrg, t.ctl.stenctl, t.ctl.eprmrq, t.addr)) =
    some (true, true, true, 15#4) := by decide

/-- The start of W-29. -/
def beforeReset : State :=
  { withCmd [0x09#8] (withIrq asserting idle idle true
      (withXfer (fun x => { x with dest := 3#2, ready := true, enable := true, length := 0x123#12 }) P)) with
    ctl := { P.ctl with head := true }, dec := ⟨true, false, false⟩, cnt := 7 }

/-- W-29: what the software reset clears. -/
theorem test_reset_clears : after (.wrReset 0x5A#8) beforeReset
    (fun t => (t.irqOut, t.cmdContents, t.xfer.length, t.xfer.enable, t.addr)) = some (false, [], 0#12, false, 0#4) := by decide
/-- W-29: what it keeps. -/
theorem test_reset_keeps : after (.wrReset 0x5A#8) beforeReset
    (fun t => (t.irq.dec, t.ctl.head, t.dec.enable, t.cnt, t.xfer.dest, t.xfer.ready)) =
    some (asserting, true, true, 7, 3#2, true) := by decide

/-! ## Pointer, tick and power (section 2.3) -/

/-- A-1. -/
theorem test_awr : after (.awr 12#4) P (·.addr) = some 12#4 := by decide
/-- A-8, A-9. -/
theorem test_tick : after .tick { P with cnt := 5 } (·.cnt) = some 6 ∧
    after .tick { P with cnt := 0xFFFFFFFF } (·.cnt) = some 0 := by decide
/-- A-11, A-12, A-13. -/
theorem test_power : stateOf (exec (.power false) beforeReset) = some P ∧ stateOf (exec (.power true) beforeReset) = some P := by
  decide
/-- Section 2.5, the stale line: after a software reset a STAT3 read acknowledges and the line stays low. -/
theorem test_stale_line : (stateOf (exec (.wrReset 0#8) beforeReset)).bind (fun t => after .rdStat3 t (·.irqOut)) = some false ∧
    (stateOf (exec (.wrReset 0#8) beforeReset)).bind (fun t => after (.wrIfctrl 0x20#8) t (·.irqOut)) = some true := by decide

/-! ## Peer actions (section 2.4) -/

/-- E-1. -/
theorem test_cmdPush : after (.peerCmdPush 0x12#8) P (fun t => (t.cmd.fifo.head?, t.cmd.write, t.cmd.empty, t.irq.cmd.pend)) =
    some (some 0x12#8, 1, false, false) := by decide
/-- E-2. -/
theorem test_cmdPush_full : refusalOf (exec (.peerCmdPush 9#8) (withCmd [1#8, 2#8, 3#8, 4#8, 5#8, 6#8, 7#8, 8#8] P)) =
    some .commandQueueFull := by decide
/-- E-3, E-4. -/
theorem test_stsPop : after .peerStsPop (withSts [0xA3#8] P) (fun t => (t.peerData, t.sts.empty)) = some (some 0xA3#8, true) ∧
    after .peerStsPop P (·.peerData) = some none := by decide
/-- E-7: the poll re-raises the line from the decoder. -/
theorem test_setPendDec : after .peerSetPendDec (withIrq enabled idle idle false P) (fun t => (t.irq.dec.pend, t.irqOut)) =
    some (true, true) := by decide
theorem test_setPendXfer : after .peerSetPendXfer (withIrq asserting idle idle false P) (fun t => (t.irq.xfer.pend, t.irqOut)) =
    some (true, true) := by decide
/-- E-5, E-6. -/
theorem test_setPendCmd : after .peerSetPendCmd (withIrq idle idle enabled false P) (·.irqOut) = some true ∧
    after .peerSetPendCmd P (fun t => (t.irq.cmd.pend, t.irqOut)) = some (true, false) := by decide
/-- E-8 and its like. -/
theorem test_headers : after (.peerHdr0 2#8) P (·.hdr.minute) = some 2#8 ∧ after (.peerHdr1 2#8) P (·.hdr.second) = some 2#8 ∧
    after (.peerHdr2 2#8) P (·.hdr.block) = some 2#8 ∧ after (.peerHdr3 2#8) P (·.hdr.mode) = some 2#8 := by decide
/-- E-9 and its like. -/
theorem test_subheaders : after (.peerShdr0 0x64#8) P (·.shdr.file) = some 0x64#8 ∧
    after (.peerShdr1 0x64#8) P (·.shdr.channel) = some 0x64#8 ∧ after (.peerShdr2 0x64#8) P (·.shdr.submode) = some 0x64#8 ∧
    after (.peerShdr3 0x64#8) P (·.shdr.coding) = some 0x64#8 := by decide
/-- E-10. -/
theorem test_stsFlags : after (.peerStsFlags false false) { P with sts := { P.sts with active := true, busy := true } }
    (fun t => (t.sts.active, t.sts.busy)) = some (false, false) := by decide
/-- E-11. -/
theorem test_xferFlags : after (.peerXferFlags false false false true)
    (withXfer (fun x => { x with active := true, busy := true, ready := true }) P)
    (fun t => (t.xfer.active, t.xfer.busy, t.xfer.ready, t.xfer.done)) = some (false, false, false, true) := by decide
theorem test_dest : after (.peerDest 3#2) P (fun t => (t.xfer.dest, t.addr)) = some (3#2, 0#4) := by decide
/-- R179, and E-12 for the pointer. -/
theorem test_peer_lanes : after (.peerLenLo 0xBC#8) P (·.xfer.length) = some 0x0BC#12 ∧
    after (.peerLenHi 0x0A#8) P (·.xfer.length) = some 0xA00#12 ∧
    after (.peerPtrLo 0x34#8) P (·.xfer.pointer) = some 0x0034#16 ∧ after (.peerPtrHi 1#8) P (·.xfer.pointer) = some 0x0100#16 ∧
    after (.peerTgtLo 0xEF#8) P (·.xfer.target) = some 0x00EF#16 ∧ after (.peerTgtHi 0xBE#8) P (·.xfer.target) = some 0xBE00#16 ∧
    after (.peerSrcLo 0xCD#8) P (·.xfer.source) = some 0x00CD#16 ∧ after (.peerSrcHi 0xAB#8) P (·.xfer.source) = some 0xAB00#16 := by
  decide

/-! ## Witnesses: for every statement with hypotheses, a state and operands that meet them together -/

/-- A state that is not the reset state: a pending line that is up, one command byte, one status byte, and a word to come. -/
def busy (w : TWord) : State :=
  { withIrq asserting idle idle true (withCmd [0x12#8] (withSts [0xA1#8] P)) with inbox := [w] }

theorem busy_inv (w : TWord) : (busy w).Inv :=
  { legal := show Params.default.Legal by decide
    cmd := show Queue.Wf 8 (queueOf [0x12#8]) by decide
    sts := show Queue.Wf 8 (queueOf [0xA1#8]) by decide
    decoder := ⟨rfl, rfl⟩
    counter := Nat.two_pow_pos _
    line := fun _ => rfl }

theorem busy_bounded (w : TWord) : (busy w).StatusBounded := fun _ => show (queueOf [0xA1#8]).count 8 ≤ 1 by decide

theorem test_witness_DecodeOfEncodeIsTheOperation : (Instr.peerLenHi 0x0F#8).WellFormed ∧ (Instr.awr 15#4).WellFormed := by decide
theorem test_witness_EncodeOfDecodeIsTheWord : decode 0xFDC0F#20 = .instr (.peerLenHi 0x0F#8) := by decide
theorem test_witness_ValidWordSelectsExactlyItsRow : decode 0x0C402#20 = .instr .peerSetPendCmd ∧
    decode 0x0C403#20 = .reject .unassignedPendSource ∧ (⟨0x0C402#20, 0x0FFFF#20⟩ : OpcodeRow) ∈ opcodeTable := by decide
theorem test_witness_StepRunsTheDecodedOperation :
    (busy 0x8005#16).inbox = 0x8005#16 :: [] ∧ decode ((busy 0x8005#16).addr ++ 0x8005#16) = .instr (.awr 5#4) := by decide
theorem test_witness_StepRefusesInvalidWordsByName :
    (busy 0xFFFF#16).inbox = 0xFFFF#16 :: [] ∧
    decode ((busy 0xFFFF#16).addr ++ 0xFFFF#16) = .reject (.unassignedSysop 0x3F#6) := by decide
theorem test_witness_StepWithNoOperationKeepsTheState : State.reset.inbox = [] := by decide
theorem test_witness_ReadEmptyCommandQueue : State.reset.cmd.empty = true := by decide
/-- The last byte, and a full queue. -/
theorem test_witness_ReadCommandByteDequeuesOldest :
    ((busy 0#16).cmd.Wf (busy 0#16).params.cmdDepth ∧ (busy 0#16).cmd.empty = false) ∧
    (Queue.Wf 8 (queueOf [1#8, 2#8, 3#8, 4#8, 5#8, 6#8, 7#8, 8#8]) ∧
      (queueOf [1#8, 2#8, 3#8, 4#8, 5#8, 6#8, 7#8, 8#8]).empty = false) := by decide
theorem test_witness_GatedStatusWriteIsDropped : gated.sts.wait = true ∧ gated.xfer.busy = true := by decide
/-- No byte and one byte under ONE, a full queue under FULL, each ungated in one of the two ways. -/
theorem test_witness_StatusWriteAppends :
    (P.params.Legal ∧ P.sts.toQueue.Wf P.params.stsDepth ∧ P.StatusBounded ∧ P.sts.wait = false) ∧
    ((busy 0#16).params.Legal ∧ (busy 0#16).sts.toQueue.Wf (busy 0#16).params.stsDepth ∧ (busy 0#16).StatusBounded ∧
      (busy 0#16).xfer.busy = false) ∧
    (fullStatus.params.Legal ∧ fullStatus.sts.toQueue.Wf fullStatus.params.stsDepth ∧ fullStatus.StatusBounded ∧
      fullStatus.sts.wait = false) := by decide
theorem test_witness_TransferTrigger :
    P.xfer.enable = false ∧ (withXfer (fun x => { x with enable := true }) P).xfer.enable = true := by decide
/-- One free slot left. -/
theorem test_witness_PeerPushAppends :
    Queue.Wf 8 (queueOf [1#8, 2#8, 3#8, 4#8, 5#8, 6#8, 7#8]) ∧ (queueOf [1#8, 2#8, 3#8, 4#8, 5#8, 6#8, 7#8]).count 8 < 8 := by decide
theorem test_witness_PeerPushIntoFullQueueIsRefused :
    (withCmd [1#8, 2#8, 3#8, 4#8, 5#8, 6#8, 7#8, 8#8] P).cmdContents.length = P.params.cmdDepth := by decide
theorem test_witness_PeerWritesHeaders :
    State.reset.ctl.head = false ∧ (headState true).ctl.head = true := by decide
theorem test_witness_PeerPopTakesOldest :
    (P.sts.toQueue.Wf P.params.stsDepth ∧ P.sts.empty = true) ∧
    ((busy 0#16).sts.toQueue.Wf (busy 0#16).params.stsDepth ∧ (busy 0#16).sts.empty = false) := by decide

/-- One operation for each clause: a reset, power, a draining COMIN read, a poll point, and an operation that keeps the line. -/
theorem test_witness_LineIsWrittenOnlyAtPollPointsAndResets :
    (∃ t, exec (.wrReset 0#8) (busy 0#16) = .next t) ∧ (∃ t, exec (.power true) (busy 0#16) = .next t) ∧
    (∃ t, exec .rdComin (busy 0#16) = .next t ∧ t.cmd.empty = true) ∧ (∃ t, exec .rdStat3 (busy 0#16) = .next t) ∧
    (∃ t, exec .tick (busy 0#16) = .next t) :=
  ⟨⟨_, rfl⟩, ⟨_, rfl⟩, ⟨_, rfl, rfl⟩, ⟨_, rfl⟩, ⟨_, rfl⟩⟩

/-- Each flag really changes in some operation of its clause. -/
theorem test_witness_InterruptFlagsChangeOnlyAsListed :
    (∃ t, exec .peerSetPendDec P = .next t ∧ t.irq.dec.pend ≠ P.irq.dec.pend) ∧
    (∃ t, exec .rdStat3 (busy 0#16) = .next t ∧ t.irq.dec.pend ≠ (busy 0#16).irq.dec.pend) ∧
    (∃ t, exec .peerSetPendXfer P = .next t ∧ t.irq.xfer.pend ≠ P.irq.xfer.pend) ∧
    (∃ t, exec (.wrDtack 0#8) (withIrq idle pending idle false P) = .next t ∧ t.irq.xfer.pend ≠ true) ∧
    (∃ t, exec .peerSetPendCmd P = .next t ∧ t.irq.cmd.pend ≠ P.irq.cmd.pend) ∧
    (∃ t, exec .rdComin (withIrq idle idle pending false (withCmd [0x12#8] P)) = .next t ∧ t.irq.cmd.pend ≠ true) ∧
    (∃ t, exec (.wrIfctrl 0x80#8) P = .next t ∧ t.irq.cmd.en ≠ P.irq.cmd.en) :=
  ⟨⟨_, rfl, by decide⟩, ⟨_, rfl, by decide⟩, ⟨_, rfl, by decide⟩, ⟨_, rfl, by decide⟩, ⟨_, rfl, by decide⟩, ⟨_, rfl, by decide⟩,
    ⟨_, rfl, by decide⟩⟩

/-- Ports 0, 1, 14 and 15, AWR, power, and an operation at no port. -/
theorem test_witness_PointerFollowsThePerPortTable :
    (∃ t, exec .rdComin P = .next t ∧ t.addr = 0#4) ∧ (∃ t, exec .rdIfstat P = .next t ∧ t.addr = 2#4) ∧
    (∃ t, exec (.wrCtrl2 0#8) P = .next t ∧ t.addr = 15#4) ∧ (∃ t, exec .rdStat3 P = .next t ∧ t.addr = 0#4) ∧
    (∃ t, exec (.awr 9#4) P = .next t ∧ t.addr = 9#4) ∧ (∃ t, exec (.power false) P = .next t) ∧
    (∃ t, exec .tick { P with addr := 6#4 } = .next t ∧ t.addr = 6#4) :=
  ⟨⟨_, rfl, rfl⟩, ⟨_, rfl, rfl⟩, ⟨_, rfl, rfl⟩, ⟨_, rfl, rfl⟩, ⟨_, rfl, rfl⟩, ⟨_, rfl⟩, ⟨_, rfl, rfl⟩⟩

/-- A read word and a write word, at pointers 0, 15, 1 and 14. -/
theorem test_witness_EveryHostAccessCompletes :
    ((busy 0#16).inbox = 0x0000#16 :: [] ∧ (busy 0#16).addr = 0#4) ∧
    (({ busy 0x4007#16 with addr := 15#4 } : State).inbox = 0x4007#16 :: [] ∧ (0x4007#16 : TWord) = 0x40#8 ++ 0x07#8) ∧
    (1 ≤ (1#4 : Port).toNat ∧ (1#4 : Port).toNat ≤ 14) ∧ (1 ≤ (14#4 : Port).toNat ∧ (14#4 : Port).toNat ≤ 14) := by decide

/-- The defaults, and the smallest parameters. -/
theorem test_witness_CreationMeetsTheInvariant : Params.default.Legal ∧ (⟨0, 1, .full, 1, [0#2, 1#2]⟩ : Params).Legal := by decide

theorem test_witness_StepKeepsTheInvariant : (busy 0xC000#16).Inv ∧ ∃ t, step (busy 0xC000#16) = .next t :=
  ⟨busy_inv _, ⟨_, rfl⟩⟩

theorem test_witness_LineFollowsTheAggregateBetweenResets :
    (busy 0xC000#16).LineFollows ∧ (∃ t, step (busy 0xC000#16) = .next t) ∧
    ∀ w rest d, (busy 0xC000#16).inbox = w :: rest → decode ((busy 0xC000#16).addr ++ w) ≠ .instr (.wrReset d) := by
  refine ⟨rfl, ⟨_, rfl⟩, ?_⟩
  intro w rest d h
  obtain ⟨rfl, -⟩ := List.cons.inj h
  simp [show decode ((busy 0xC000#16).addr ++ 0xC000#16) = .instr .tick by decide]

theorem test_witness_StatusQueueHoldsAtMostOneByte :
    (busy 0x4055#16).Inv ∧ (busy 0x4055#16).StatusBounded ∧ ∃ t, step (busy 0x4055#16) = .next t :=
  ⟨busy_inv _, busy_bounded _, ⟨_, rfl⟩⟩

theorem test_witness_QueuesRefineLists :
    (busy 0#16).Inv ∧ (busy 0#16).StatusBounded ∧ (∃ t, exec .rdComin (busy 0#16) = .next t) ∧
    (∃ t, exec .peerStsPop (busy 0#16) = .next t) :=
  ⟨busy_inv _, busy_bounded _, ⟨_, rfl⟩, ⟨_, rfl⟩⟩

theorem test_witness_HiddenStateNeverShows :
    (withXfer (fun x => { x with source := 0xABCD#16, dest := 3#2 }) (busy 0#16)).hide = (busy 0#16).hide ∧
    withXfer (fun x => { x with source := 0xABCD#16, dest := 3#2 }) (busy 0#16) ≠ busy 0#16 := by decide

theorem test_witness_PeerTouchesNoHostState :
    (Instr.peerSetPendCmd.isPeer = true ∧ ∃ t, exec .peerSetPendCmd (withIrq idle idle enabled false P) = .next t ∧ t.irqOut ≠ false) ∧
    (Instr.peerStsPop.isPeer = true ∧ ∃ t, exec .peerStsPop (busy 0#16) = .next t) :=
  ⟨⟨rfl, _, rfl, by decide⟩, ⟨rfl, _, rfl⟩⟩

theorem test_witness_CounterChangesOnlyByTickAndPower : ∃ t, exec .tick P = .next t ∧ t.cnt ≠ P.cnt := ⟨_, rfl, by decide⟩

theorem test_witness_FieldsHaveOnlyTheirWriters :
    (∃ t, exec (.wrCtrl2 1#8) P = .next t ∧ t.ctl ≠ P.ctl) ∧ (∃ t, exec (.wrCtrl0 0x80#8) P = .next t ∧ t.dec ≠ P.dec) ∧
    (∃ t, exec (.peerHdr3 1#8) P = .next t ∧ t.hdr ≠ P.hdr) ∧ (∃ t, exec (.peerShdr3 1#8) P = .next t ∧ t.shdr ≠ P.shdr) ∧
    (∃ t, exec (.peerDest 1#2) P = .next t ∧ t.xfer.dest ≠ P.xfer.dest) :=
  ⟨⟨_, rfl, by decide⟩, ⟨_, rfl, by decide⟩, ⟨_, rfl, by decide⟩, ⟨_, rfl, by decide⟩, ⟨_, rfl, by decide⟩⟩

theorem test_witness_OwnFieldsChangeOnlyAsStated :
    (∃ t, exec .rdStat1 P = .next t ∧ t.hostData ≠ P.hostData) ∧ (∃ t, exec .peerStsPop (busy 0#16) = .next t ∧ t.peerData ≠ none) :=
  ⟨⟨_, rfl, by decide⟩, ⟨_, rfl, by decide⟩⟩

end Sys2Proof.Tests
end

section
/-!
SUPPORT. Which byte each read port of the target, the block pointer and the first two status bytes gives the host (R109 to R114), what
the byte writes of the two 16-bit fields answer (R129, R130, R133, R134), and the read-back statement made of them (10_state.md R39).
-/

namespace Sys2Proof.Machine

/-! ## The byte a read port gives the host -/

/-- An operation that ends as a data read of the byte `d` gives the host `d` and no other byte (R100). -/
theorem State.hostReads_iff_of_exec {s t : State} {r : Instr} {p : Port} {b d : Byte} (h : exec r s = hostRead p d t) :
    s.HostReads r b ↔ d = b := by
  simp [State.HostReads, h]

@[simp] theorem State.hostReads_rdPtl_iff {s : State} {b : Byte} : s.HostReads .rdPtl b ↔ lowByte s.xfer.pointer = b :=
  State.hostReads_iff_of_exec rfl

@[simp] theorem State.hostReads_rdPth_iff {s : State} {b : Byte} : s.HostReads .rdPth b ↔ highByte s.xfer.pointer = b :=
  State.hostReads_iff_of_exec rfl

@[simp] theorem State.hostReads_rdWal_iff {s : State} {b : Byte} : s.HostReads .rdWal b ↔ lowByte s.xfer.target = b :=
  State.hostReads_iff_of_exec rfl

@[simp] theorem State.hostReads_rdWah_iff {s : State} {b : Byte} : s.HostReads .rdWah b ↔ highByte s.xfer.target = b :=
  State.hostReads_iff_of_exec rfl

@[simp] theorem State.hostReads_rdStat0_iff {s : State} {b : Byte} : s.HostReads .rdStat0 b ↔ s.stat0 = b :=
  State.hostReads_iff_of_exec rfl

@[simp] theorem State.hostReads_rdStat1_iff {s : State} {b : Byte} : s.HostReads .rdStat1 b ↔ stat1 = b :=
  State.hostReads_iff_of_exec rfl

/-- STAT0 depends on the decoder only (R46). -/
theorem State.stat0_congr {s t : State} (h : t.dec = s.dec) : t.stat0 = s.stat0 := by
  simp [State.stat0, h]

/-! ## The byte writes of the block pointer and of the target -/

theorem exec_wrPtl (d : Byte) (s : State) :
    exec (.wrPtl d) s = .next { s with addr := 9#4, xfer := { s.xfer with pointer := setLowByte s.xfer.pointer d } } := rfl

theorem exec_wrPth (d : Byte) (s : State) :
    exec (.wrPth d) s = .next { s with addr := 10#4, xfer := { s.xfer with pointer := setHighByte s.xfer.pointer d } } := rfl

theorem exec_wrWal (d : Byte) (s : State) :
    exec (.wrWal d) s = .next { s with addr := 13#4, xfer := { s.xfer with target := setLowByte s.xfer.target d } } := rfl

theorem exec_wrWah (d : Byte) (s : State) :
    exec (.wrWah d) s = .next { s with addr := 14#4, xfer := { s.xfer with target := setHighByte s.xfer.target d } } := rfl

/-! ## Reading back what was written -/

/-- Both bytes of the target written at ports 12 and 13: the field is whole, ports 10 and 11 give the bytes back, and the decoder,
which ports 12 and 13 read, is as it was. -/
theorem exec_wrWal_wrWah_readBack (s : State) (lo hi : Byte) :
    ∃ t u : State, exec (.wrWal lo) s = .next t ∧ exec (.wrWah hi) t = .next u ∧ u.xfer.target = hi ++ lo ∧
      u.HostReads .rdWal lo ∧ u.HostReads .rdWah hi ∧ u.dec = s.dec := by
  refine ⟨_, _, exec_wrWal lo s, exec_wrWah hi _, setHighByte_setLowByte _ _ _, ?_, ?_, rfl⟩
  · simp only [State.hostReads_rdWal_iff, lowByte_setHighByte, lowByte_setLowByte]
  · simp only [State.hostReads_rdWah_iff, highByte_setHighByte]

/-- Both bytes of the block pointer written at ports 8 and 9: the field is whole and the same ports give the bytes back. -/
theorem exec_wrPtl_wrPth_readBack (s : State) (lo hi : Byte) :
    ∃ t u : State, exec (.wrPtl lo) s = .next t ∧ exec (.wrPth hi) t = .next u ∧ u.xfer.pointer = hi ++ lo ∧
      u.HostReads .rdPtl lo ∧ u.HostReads .rdPth hi := by
  refine ⟨_, _, exec_wrPtl lo s, exec_wrPth hi _, setHighByte_setLowByte _ _ _, ?_, ?_⟩
  · simp only [State.hostReads_rdPtl_iff, lowByte_setHighByte, lowByte_setLowByte]
  · simp only [State.hostReads_rdPth_iff, highByte_setHighByte]

/-- Settles O29: each lane survives the write of the other, and the target writes leave the decoder that STAT0 shows (R39). -/
theorem targetAndPointerReadBack : Obligations.TargetAndPointerReadBack := by
  intro s lo hi
  obtain ⟨t, u, hlo, hhi, htarget, hwal, hwah, hdec⟩ := exec_wrWal_wrWah_readBack s lo hi
  have hstat0 : s.HostReads .rdStat0 u.stat0 := State.hostReads_rdStat0_iff.2 (State.stat0_congr hdec).symm
  exact ⟨⟨t, u, hlo, hhi, htarget, hwal, hwah,
      u.stat0, stat1, State.hostReads_rdStat0_iff.2 rfl, hstat0, State.hostReads_rdStat1_iff.2 rfl, State.hostReads_rdStat1_iff.2 rfl⟩,
    exec_wrPtl_wrPth_readBack s lo hi⟩

end Sys2Proof.Machine
end

section
/-!
SUPPORT. The whole effect of the reads of a stored byte or of a fixed one: the byte, the next pointer and the frame (R100, R103, R109 to
R112, R114).
-/

namespace Sys2Proof.Machine

/-- A data read of port `p` whose own effect leads to `t` answers `t` with the byte returned and the pointer at the port after `p`. -/
theorem exec_eq_next_of_hostRead {s t : State} {r : Instr} {p q : Port} {d : Byte} (h : exec r s = hostRead p d t)
    (hq : nextPort p = q) : exec r s = .next { t with addr := q, hostData := some d } := by
  rw [h, hostRead_eq, hq]

/-- Settles O10: each of the five ports returns one lane of its field with no effect of its own, and the pointer goes to the next port. -/
theorem readLengthPointerAndTargetBytes : Obligations.ReadLengthPointerAndTargetBytes := by
  intro s
  have hdbcl : exec .rdDbcl s = hostRead 2#4 (lengthLow s.xfer.length) s := rfl
  have hptl : exec .rdPtl s = hostRead 8#4 (lowByte s.xfer.pointer) s := rfl
  have hpth : exec .rdPth s = hostRead 9#4 (highByte s.xfer.pointer) s := rfl
  have hwal : exec .rdWal s = hostRead 10#4 (lowByte s.xfer.target) s := rfl
  have hwah : exec .rdWah s = hostRead 11#4 (highByte s.xfer.target) s := rfl
  exact ⟨exec_eq_next_of_hostRead hdbcl (by decide), exec_eq_next_of_hostRead hptl (by decide),
    exec_eq_next_of_hostRead hpth (by decide), exec_eq_next_of_hostRead hwal (by decide),
    exec_eq_next_of_hostRead hwah (by decide)⟩

/-- Settles O13: port 13 returns the constant `stat1`, which no part of the state enters (R47). -/
theorem readStatusOneIsZero : Obligations.ReadStatusOneIsZero := by
  intro s
  have hstat1 : exec .rdStat1 s = hostRead 13#4 stat1 s := rfl
  exact exec_eq_next_of_hostRead hstat1 (by decide)

end Sys2Proof.Machine
end

section
/-!
SUPPORT. What the byte writes of the length and of the source answer (R123, R125, R126), and the statement on all seven byte writes.
-/

namespace Sys2Proof.Machine

theorem exec_wrDbcl (d : Byte) (s : State) :
    exec (.wrDbcl d) s = .next { s with addr := 3#4, xfer := { s.xfer with length := setLengthLow s.xfer.length d } } := rfl

theorem exec_wrDacl (d : Byte) (s : State) :
    exec (.wrDacl d) s = .next { s with addr := 5#4, xfer := { s.xfer with source := setLowByte s.xfer.source d } } := rfl

theorem exec_wrDach (d : Byte) (s : State) :
    exec (.wrDach d) s = .next { s with addr := 6#4, xfer := { s.xfer with source := setHighByte s.xfer.source d } } := rfl

/-- Settles O21: each of the seven ports sets one lane of its field, and a set lane is the byte appended to the bits the field keeps
(`setLengthLow`, `setLowByte`, `setHighByte` by definition). -/
theorem byteWritesReplaceTheirLane : Obligations.ByteWritesReplaceTheirLane := by
  intro s d
  exact ⟨exec_wrDbcl d s, exec_wrDacl d s, exec_wrDach d s, exec_wrPtl d s, exec_wrPth d s, exec_wrWal d s, exec_wrWah d s⟩

end Sys2Proof.Machine
end

section
/-!
SUPPORT. Who writes the Address Pointer (42_pointer_lifecycle.md R151 to R153): every data access ends in `advance` of its port, and no
other operation but the address write and power moves it. The power call ignores its argument (R158).
-/

namespace Sys2Proof.Machine

/-! ## The power call -/

/-- What power answers; its argument does not enter (R157). -/
theorem exec_power (r : Bool) (s : State) : exec (.power r) s = .next s.powerClear := rfl

/-- Settles O33: either argument gives the cleared state. -/
theorem powerIgnoresItsArgument : Obligations.PowerIgnoresItsArgument := fun s =>
  (exec_power false s).trans (exec_power true s).symm

/-! ## The pointer -/

/-- Whatever the port's own effect leaves (the state `u`), an access of port `p` completes and ends in `advance(p)` (R151). -/
theorem exec_eq_next_advance_of_port {i : Instr} {p : Port} (hp : i.port? = some p) (s : State) :
    ∃ u : State, exec i s = .next (u.advance p) := by
  cases i
  case rdComin =>
    cases hp
    simp only [exec, execRdComin, hostRead]
    split
    · exact ⟨_, rfl⟩ -- an empty queue
    · exact ⟨_, rfl⟩ -- a byte taken
  all_goals cases hp -- closes the operations at no port
  all_goals exact ⟨_, rfl⟩

/-- After an access of port `p` the pointer is the next port of the table (R152). -/
theorem addr_of_exec_port {i : Instr} {p : Port} {s t : State} (hp : i.port? = some p) (h : exec i s = .next t) :
    t.addr = nextPort p := by
  obtain ⟨u, hu⟩ := exec_eq_next_advance_of_port hp s
  have ht : u.advance p = t := Host.Outcome.next.inj (hu.symm.trans h)
  rw [← ht]
  rfl

/-- Of the operations at no port, only the address write and power move the pointer (R153). -/
theorem addr_of_exec_no_port {i : Instr} {s t : State} (hp : i.port? = none) (h : exec i s = .next t) :
    t.addr = s.addr ∨ (∃ a, i = .awr a) ∨ ∃ r, i = .power r := by
  cases i
  case awr a => exact .inr (.inl ⟨a, rfl⟩)
  case power r => exact .inr (.inr ⟨r, rfl⟩)
  case peerCmdPush b =>
    obtain ⟨-, rfl⟩ := execPeerCmdPush_cases h
    exact .inl rfl
  case peerStsPop =>
    obtain ⟨-, rfl⟩ | ⟨-, rfl⟩ := execPeerStsPop_cases h
    · exact .inl rfl
    · exact .inl rfl
  all_goals cases hp -- closes the data accesses
  all_goals -- the tick and the other peer actions answer `s` with fields other than `addr` written
    cases h
    exact .inl rfl

/-- Settles O46: a data access goes to the next port of the table, and an operation at no port keeps the pointer or is one of the
two other writers. -/
theorem pointerFollowsThePerPortTable : Obligations.PointerFollowsThePerPortTable := by
  intro i s t h
  cases hp : i.port? with
  | none => exact addr_of_exec_no_port hp h
  | some p =>
    obtain ⟨hzero, hfifteen, hinner⟩ := nextPort_table
    have haddr : t.addr = nextPort p := addr_of_exec_port hp h
    refine ⟨?_, fun ⟨hlow, hhigh⟩ => ?_⟩
    · rintro (rfl | rfl)
      · exact haddr.trans hzero
      · exact haddr.trans hfifteen
    · rw [haddr]
      exact hinner p hlow hhigh

end Sys2Proof.Machine
end

section
/-!
SUPPORT. The refusals (60_exceptions.md R190): what a step answers for no word, for a word that decodes and for one that does not, and
which operations complete. The aggregator, source by source (R191).
-/

namespace Sys2Proof.Machine

/-! ## One step, by what arrives -/

theorem step_of_inbox_nil {s : State} (h : s.inbox = []) : step s = .next s := by
  simp only [step, State.fetch_nil h, State.idle]

theorem step_of_decode_instr {s : State} {w : TWord} {rest : List TWord} {i : Instr} (hin : s.inbox = w :: rest)
    (hd : decode (s.addr ++ w) = .instr i) : step s = exec i { s with inbox := rest } := by
  simp only [step, State.fetch_cons hin, decodeWord, hd]

theorem step_of_decode_reject {s : State} {w : TWord} {rest : List TWord} {e : Reject} (hin : s.inbox = w :: rest)
    (hd : decode (s.addr ++ w) = .reject e) : step s = .refused (.invalidWord e) := by
  simp only [step, State.fetch_cons hin, decodeWord, hd]

/-! ## The operations that complete -/

/-- R171: a push completes where a slot is free, and is refused by name where none is. -/
theorem exec_peerCmdPush (b : Byte) (s : State) :
    exec (.peerCmdPush b) s =
      if s.cmd.count s.params.cmdDepth < s.params.cmdDepth then .next { s with cmd := s.cmd.push s.params.cmdDepth b }
      else .refused .commandQueueFull := rfl

/-- Of the operations at no port, every one but the push completes in every state. -/
theorem exec_no_port_completes {i : Instr} (hp : i.port? = none) (hpush : ∀ b, i ≠ .peerCmdPush b) (s : State) :
    ∃ t, exec i s = .next t := by
  cases i
  case peerCmdPush b => exact absurd rfl (hpush b)
  case peerStsPop =>
    simp only [exec, execPeerStsPop]
    split
    · exact ⟨_, rfl⟩ -- an empty queue
    · exact ⟨_, rfl⟩ -- a byte taken
  all_goals cases hp -- closes the data accesses
  all_goals exact ⟨_, rfl⟩

/-- Every operation completes, or is a push into a full queue and is refused by name (R190, R171). -/
theorem exec_completes_or_push_full (i : Instr) (s : State) :
    (∃ t, exec i s = .next t) ∨
    ∃ b, i = .peerCmdPush b ∧ s.params.cmdDepth ≤ s.cmd.count s.params.cmdDepth ∧ exec i s = .refused .commandQueueFull := by
  by_cases hpush : ∃ b, i = .peerCmdPush b
  · obtain ⟨b, rfl⟩ := hpush
    by_cases hfree : s.cmd.count s.params.cmdDepth < s.params.cmdDepth
    · exact .inl ⟨_, (exec_peerCmdPush b s).trans (if_pos hfree)⟩
    · exact .inr ⟨b, rfl, not_lt.1 hfree, (exec_peerCmdPush b s).trans (if_neg hfree)⟩
  · left
    cases hp : i.port? with
    | none => exact exec_no_port_completes hp (not_exists.1 hpush) s
    | some p =>
      obtain ⟨u, hu⟩ := exec_eq_next_advance_of_port hp s
      exact ⟨_, hu⟩

/-- Settles O8: with no word the core is idle, a word that does not decode is refused, and one that decodes runs an operation that
completes or is a push into a full queue; taking the word from `inbox` changes neither the queue nor its depth. -/
theorem noFaultAndOnlyTwoRefusals : Obligations.NoFaultAndOnlyTwoRefusals := by
  intro s
  cases hin : s.inbox with
  | nil => exact .inl ⟨s, step_of_inbox_nil hin⟩
  | cons w rest =>
    cases hd : decode (s.addr ++ w) with
    | reject e => exact .inr (.inl ⟨w, rest, e, rfl, hd, step_of_decode_reject hin hd⟩)
    | instr i =>
      have hstep := step_of_decode_instr hin hd
      obtain ⟨t, ht⟩ | ⟨b, rfl, hfull, href⟩ := exec_completes_or_push_full i { s with inbox := rest }
      · exact .inl ⟨t, hstep.trans ht⟩
      · exact .inr (.inr ⟨w, rest, b, rfl, hd, hfull, hstep.trans href⟩)

/-! ## The aggregator -/

theorem State.aggregate_eq_true_iff (s : State) :
    s.aggregate = true ↔
      (s.irq.dec.en = true ∧ s.irq.dec.pend = true) ∨ (s.irq.xfer.en = true ∧ s.irq.xfer.pend = true) ∨
      (s.irq.cmd.en = true ∧ s.irq.cmd.pend = true) := by
  simp only [State.aggregate, Bool.or_eq_true, Bool.and_eq_true, or_assoc]

/-- Settles O42: `poll()` is the update of the line alone, to the aggregate. -/
theorem pollIsTheOrOfTheSources : Obligations.PollIsTheOrOfTheSources := by
  intro s
  refine ⟨rfl, ?_⟩
  rw [State.poll_irqOut]
  exact s.aggregate_eq_true_iff

end Sys2Proof.Machine
end

section
/-!
SUPPORT. The decoder and the encoder undo each other, field by field (30_encoding.md R80 to R86; D2, D30), and the opcode table's rows
against the decoder (R85).
-/

namespace Sys2Proof

/-! ## What a decode word of the encoder decodes to -/

/-- Decoding the fields of an operation gives it back. The cases written out are the ones whose operand shares the payload with bits
that must be 0. -/
theorem Instr.decode_fieldsAt {i : Instr} (h : i.WellFormed) (addr : Port) : (i.fieldsAt addr).decode = .instr i := by
  cases i
  case awr a =>
    have hzeros : (0#4 ++ a).extractLsb' 4 4 = 0#4 := extract_high_append 0#4 a
    have hptr : (0#4 ++ a).extractLsb' 0 4 = a := extract_low_append 0#4 a
    simp [Instr.fieldsAt, Fields.decode, Decoded.guard, hzeros, hptr]
  case peerDest n =>
    have hzeros : (0#6 ++ n).extractLsb' 2 6 = 0#6 := extract_high_append 0#6 n
    have hsel : (0#6 ++ n).extractLsb' 0 2 = n := extract_low_append 0#6 n
    simp [Instr.fieldsAt, Instr.sysFields, Fields.decode, decodeSys, Decoded.guard, hzeros, hsel]
  case peerLenHi b => exact if_pos h
  case power r => decide +revert
  case peerStsFlags act busy => decide +revert
  case peerXferFlags act busy ready done => decide +revert
  case peerSetPendDec => decide +revert
  case peerSetPendXfer => decide +revert
  case peerSetPendCmd => decide +revert
  all_goals rfl

/-- Settles O1: the decoder sees exactly the fields that the encoder put together. -/
theorem decodeOfEncodeIsTheOperation : Obligations.DecodeOfEncodeIsTheOperation := by
  intro i addr h
  exact (decode_toDWord _).trans (Instr.decode_fieldsAt h addr)

/-! ## What encodes to a decode word that decodes -/

theorem Decoded.guard_eq_instr_iff {zeros : Bool} {i j : Instr} : Decoded.guard zeros i = .instr j ↔ zeros = true ∧ i = j := by
  cases zeros <;> simp [Decoded.guard]

/-- The operation `i` is well formed and has the fields `f`. -/
def Instr.Spells (i : Instr) (f : Fields) : Prop := i.WellFormed ∧ i.fieldsAt f.port = f

theorem readInstr_spells (p : Port) : (readInstr p).Spells ⟨p, 0b00#2, 0#6, 0#8⟩ := by
  obtain ⟨⟨n, hn⟩⟩ := p
  interval_cases n <;> exact ⟨rfl, rfl⟩

theorem writeInstr_spells (p : Port) (d : Byte) : (writeInstr p d).Spells ⟨p, 0b01#2, 0#6, d⟩ := by
  obtain ⟨⟨n, hn⟩⟩ := p
  interval_cases n <;> exact ⟨rfl, rfl⟩

theorem awr_spells (port : Port) {b : Byte} (h : b.extractLsb' 4 4 = 0#4) :
    (Instr.awr (b.extractLsb' 0 4)).Spells ⟨port, 0b10#2, 0#6, b⟩ := by
  have hb : 0#4 ++ b.extractLsb' 0 4 = b := h ▸ extract_append_extract (m := 4) (n := 4) b
  exact ⟨rfl, congrArg (Fields.mk port 0b10#2 0#6) hb⟩

/-- The payload of a one-bit operand is the bit under seven zeros. -/
theorem payload_eq_of_one_bit (b : Byte) : b.extractLsb' 1 7 = 0#7 → 0#7 ++ BitVec.ofBool b[0] = b := by decide +revert

/-- The payload of a two-bit operand is its bits under six zeros. -/
theorem payload_eq_of_two_bits (b : Byte) :
    b.extractLsb' 2 6 = 0#6 → 0#6 ++ BitVec.ofBool b[1] ++ BitVec.ofBool b[0] = b := by decide +revert

/-- The payload of a four-bit operand is its bits under four zeros. -/
theorem payload_eq_of_four_bits (b : Byte) :
    b.extractLsb' 4 4 = 0#4 →
      0#4 ++ BitVec.ofBool b[3] ++ BitVec.ofBool b[2] ++ BitVec.ofBool b[1] ++ BitVec.ofBool b[0] = b := by decide +revert

/-- The three sources of PEER_SET_PEND are the whole payload. -/
theorem decodePend_eq_instr {b : Byte} {i : Instr} (h : decodePend b = .instr i) :
    i = .peerSetPendDec ∧ b = 0#8 ∨ i = .peerSetPendXfer ∧ b = 1#8 ∨ i = .peerSetPendCmd ∧ b = 2#8 := by
  have hb : b.extractLsb' 2 6 ++ b.extractLsb' 0 2 = b := extract_append_extract (m := 6) (n := 2) b
  unfold decodePend at h
  split at h
  next hz =>
    rw [hz] at hb
    split at h <;> rename_i hsrc <;> cases h
    · exact .inl ⟨rfl, by rw [← hb, hsrc]; rfl⟩
    · exact .inr (.inl ⟨rfl, by rw [← hb, hsrc]; rfl⟩)
    · exact .inr (.inr ⟨rfl, by rw [← hb, hsrc]; rfl⟩)
  next => cases h

/-- A guarded SYS row: where the bits that must be 0 are 0, the operation and its payload determine each other. -/
theorem spells_of_guard {port : Port} {op : BitVec 6} {b p : Byte} {zeros : Prop} [Decidable zeros] {i j : Instr}
    (hi : zeros → i.WellFormed ∧ p = b) (hf : i.fieldsAt port = Instr.sysFields port op p)
    (h : Decoded.guard (decide zeros) i = .instr j) : j.Spells ⟨port, 0b11#2, op, b⟩ := by
  obtain ⟨hz, rfl⟩ := Decoded.guard_eq_instr_iff.1 h
  obtain ⟨hwf, rfl⟩ := hi (of_decide_eq_true hz)
  exact ⟨hwf, hf⟩

/-- A SYS word that decodes is the word of its operation. The cases written out are the rows of R84 that demand a bit to be 0; each of
the others carries its whole payload. -/
theorem spells_of_decodeSys (port : Port) {op : BitVec 6} {b : Byte} {i : Instr} (h : decodeSys op b = .instr i) :
    i.Spells ⟨port, 0b11#2, op, b⟩ := by
  unfold decodeSys at h
  split at h
  case h_1 => exact spells_of_guard (fun hz => ⟨rfl, hz.symm⟩) rfl h -- TICK
  case h_2 => exact spells_of_guard (fun hz => ⟨rfl, payload_eq_of_one_bit b hz⟩) rfl h -- POWER
  case h_4 => exact spells_of_guard (fun hz => ⟨rfl, hz.symm⟩) rfl h -- PEER_STS_POP
  case h_5 => -- PEER_SET_PEND
    obtain ⟨rfl, rfl⟩ | ⟨rfl, rfl⟩ | ⟨rfl, rfl⟩ := decodePend_eq_instr h <;> exact ⟨rfl, rfl⟩
  case h_14 => exact spells_of_guard (fun hz => ⟨rfl, payload_eq_of_two_bits b hz⟩) rfl h -- PEER_STS_FLAGS
  case h_15 => exact spells_of_guard (fun hz => ⟨rfl, payload_eq_of_four_bits b hz⟩) rfl h -- PEER_XFER_FLAGS
  case h_16 => -- PEER_DEST
    exact spells_of_guard (fun hz => ⟨rfl, hz ▸ extract_append_extract (m := 6) (n := 2) b⟩) rfl h
  case h_18 => exact spells_of_guard (i := .peerLenHi b) (fun hz => ⟨decide_eq_true hz, rfl⟩) rfl h -- PEER_LEN_HI
  case h_25 => cases h -- an unassigned sysop
  all_goals
    cases h
    exact ⟨rfl, rfl⟩

/-- Fields that decode to an operation are that operation's fields. -/
theorem Instr.spells_of_decode {f : Fields} {i : Instr} (h : f.decode = .instr i) : i.Spells f := by
  obtain ⟨port, kind, op, b⟩ := f
  unfold Fields.decode at h
  split at h <;> rename_i hk <;> obtain rfl : kind = _ := hk
  · obtain ⟨hz, rfl⟩ := Decoded.guard_eq_instr_iff.1 h
    obtain ⟨rfl, rfl⟩ : op = 0#6 ∧ b = 0#8 := by simpa using hz
    exact readInstr_spells port
  · obtain ⟨hz, rfl⟩ := Decoded.guard_eq_instr_iff.1 h
    obtain rfl : op = 0#6 := of_decide_eq_true hz
    exact writeInstr_spells port b
  · obtain ⟨hz, rfl⟩ := Decoded.guard_eq_instr_iff.1 h
    obtain ⟨rfl, hb⟩ : op = 0#6 ∧ b.extractLsb' 4 4 = 0#4 := by simpa using hz
    exact awr_spells port hb
  · exact spells_of_decodeSys port h

/-- Settles O2: the fields of the word are those of the operation, and fields determine their word. -/
theorem encodeOfDecodeIsTheWord : Obligations.EncodeOfDecodeIsTheWord := by
  intro d i h
  obtain ⟨hwf, hfields⟩ : i.Spells (DWord.fields d) := Instr.spells_of_decode h
  exact ⟨hwf, (congrArg Fields.toDWord hfields).trans (Fields.toDWord_fields d)⟩

/-! ## The opcode table -/

/-- The fields of a decode word, its transaction word not yet taken apart (R85). -/
theorem DWord.fields_append (addr : Port) (w : TWord) :
    DWord.fields (addr ++ w) = ⟨addr, w.extractLsb' 14 2, w.extractLsb' 8 6, w.extractLsb' 0 8⟩ := by
  simp only [DWord.fields, Fields.mk.injEq]
  exact ⟨extract_high_append addr w, extract_within_low addr w 14 2 (by omega), extract_within_low addr w 8 6 (by omega),
    extract_within_low addr w 0 8 (by omega)⟩

theorem readInstr_row (p : Port) : (readInstr p).row = ⟨p ++ 0x0000#16, 0xFFFFF#20⟩ := by decide +revert

theorem writeInstr_row (p : Port) (d : Byte) : (writeInstr p d).row = ⟨p ++ 0x4000#16, 0xFFF00#20⟩ := by
  have hzero : (writeInstr p d).row = (writeInstr p 0#8).row := by
    unfold writeInstr
    split <;> rfl
  rw [hzero]
  decide +revert

theorem exists_port_of_mem_read : ∀ r ∈ opcodeRowsRead, ∃ p, (readInstr p).row = r := by decide

theorem exists_port_of_mem_write : ∀ r ∈ opcodeRowsWrite, ∃ p, (writeInstr p 0#8).row = r := by decide

/-- Some operation with the row `r` decodes from the fields `f`. -/
def Fields.DecodesToRow (f : Fields) (r : OpcodeRow) : Prop := ∃ i, f.decode = .instr i ∧ i.row = r

/-! Masks with every bit of their field set. -/

theorem and_full_port (p : Port) : p &&& 0xF#4 = p := BitVec.and_allOnes
theorem and_full_kind (k : BitVec 2) : k &&& 0b11#2 = k := BitVec.and_allOnes
theorem and_full_sysop (op : BitVec 6) : op &&& 0x3F#6 = op := BitVec.and_allOnes
theorem and_full_payload (b : Byte) : b &&& 0xFF#8 = b := BitVec.and_allOnes

theorem Fields.decodesToRow_of_read {f : Fields} {p : Port} (h : (readInstr p).row.Selects f.toDWord) :
    f.DecodesToRow (readInstr p).row := by
  obtain ⟨port, kind, op, b⟩ := f
  rw [readInstr_row, OpcodeRow.selects_toDWord_iff, DWord.fields_append] at h
  simp only [DWord.fields, BitVec.reduceExtractLsb', and_full_port, and_full_kind, and_full_sysop, and_full_payload] at h
  obtain ⟨rfl, rfl, rfl, rfl⟩ := h
  exact ⟨_, rfl, rfl⟩

theorem Fields.decodesToRow_of_write {f : Fields} {p : Port} {d : Byte} (h : (writeInstr p d).row.Selects f.toDWord) :
    f.DecodesToRow (writeInstr p d).row := by
  obtain ⟨port, kind, op, b⟩ := f
  rw [writeInstr_row, OpcodeRow.selects_toDWord_iff, DWord.fields_append] at h
  simp only [DWord.fields, BitVec.reduceExtractLsb', and_full_port, and_full_kind, and_full_sysop] at h
  obtain ⟨rfl, rfl, rfl, -⟩ := h
  exact ⟨writeInstr port b, rfl, (writeInstr_row port b).trans (writeInstr_row port d).symm⟩

/-! The payload masks of the table that leave one, two or four bits to the operand. -/

theorem extract_eq_zero_of_mask_FE (b : Byte) : b &&& 0xFE#8 = 0#8 → b.extractLsb' 1 7 = 0#7 := by decide +revert
theorem extract_eq_zero_of_mask_FC (b : Byte) : b &&& 0xFC#8 = 0#8 → b.extractLsb' 2 6 = 0#6 := by decide +revert
theorem extract_eq_zero_of_mask_F0 (b : Byte) : b &&& 0xF0#8 = 0#8 → b.extractLsb' 4 4 = 0#4 := by decide +revert

theorem Fields.decodesToRow_of_guard {f : Fields} {zeros : Prop} [Decidable zeros] {i : Instr} {r : OpcodeRow} (hz : zeros)
    (hf : f.decode = Decoded.guard (decide zeros) i) (hr : i.row = r) : f.DecodesToRow r :=
  ⟨i, hf.trans (if_pos (decide_eq_true hz)), hr⟩

/-- One operation for each row of `opcodeRowsPointerAndSys`, in the table's order. -/
def pointerAndSysInstrs : List Instr :=
  [.awr 0#4, .tick, .power false, .peerCmdPush 0#8, .peerStsPop, .peerSetPendDec, .peerSetPendXfer, .peerSetPendCmd,
   .peerHdr0 0#8, .peerHdr1 0#8, .peerHdr2 0#8, .peerHdr3 0#8, .peerShdr0 0#8, .peerShdr1 0#8, .peerShdr2 0#8, .peerShdr3
   0#8, .peerStsFlags false false, .peerXferFlags false false false false, .peerDest 0#2, .peerLenLo 0#8, .peerLenHi 0#8,
   .peerPtrLo 0#8, .peerPtrHi 0#8, .peerTgtLo 0#8, .peerTgtHi 0#8, .peerSrcLo 0#8, .peerSrcHi 0#8]

theorem exists_instr_of_mem_sys {r : OpcodeRow} (hr : r ∈ opcodeRowsPointerAndSys) : ∃ i : Instr, i.port? = none ∧ i.row = r := by
  have hrows : opcodeRowsPointerAndSys = pointerAndSysInstrs.map Instr.row := rfl
  have hports : ∀ i ∈ pointerAndSysInstrs, i.port? = none := by decide
  rw [hrows, List.mem_map] at hr
  obtain ⟨i, hi, hrow⟩ := hr
  exact ⟨i, hports i hi, hrow⟩

/-- The operations at no port; the ones written out are those whose mask covers bits of the payload. -/
theorem Fields.decodesToRow_of_sys {f : Fields} {i : Instr} (hp : i.port? = none) (h : i.row.Selects f.toDWord) :
    f.DecodesToRow i.row := by
  obtain ⟨port, kind, op, b⟩ := f
  rw [OpcodeRow.selects_toDWord_iff] at h
  cases i
  all_goals cases hp -- closes the data accesses
  all_goals
    simp only [Instr.row, DWord.fields, BitVec.reduceExtractLsb', BitVec.and_zero, and_full_kind, and_full_sysop,
      and_full_payload] at h
    obtain ⟨-, rfl, rfl, hb⟩ := h
  case awr =>
    have hz : b.extractLsb' 4 4 = 0#4 := extract_eq_zero_of_mask_F0 b hb
    exact ⟨.awr (b.extractLsb' 0 4), by simp [Fields.decode, Decoded.guard, hz], rfl⟩
  case tick => exact decodesToRow_of_guard hb rfl rfl
  case power => exact decodesToRow_of_guard (extract_eq_zero_of_mask_FE b hb) rfl rfl
  case peerStsPop => exact decodesToRow_of_guard hb rfl rfl
  case peerSetPendDec => exact ⟨.peerSetPendDec, hb.symm ▸ Instr.decode_fieldsAt (i := .peerSetPendDec) rfl port, rfl⟩
  case peerSetPendXfer => exact ⟨.peerSetPendXfer, hb.symm ▸ Instr.decode_fieldsAt (i := .peerSetPendXfer) rfl port, rfl⟩
  case peerSetPendCmd => exact ⟨.peerSetPendCmd, hb.symm ▸ Instr.decode_fieldsAt (i := .peerSetPendCmd) rfl port, rfl⟩
  case peerStsFlags => exact decodesToRow_of_guard (extract_eq_zero_of_mask_FC b hb) rfl rfl
  case peerXferFlags => exact decodesToRow_of_guard (extract_eq_zero_of_mask_F0 b hb) rfl rfl
  case peerDest => exact decodesToRow_of_guard (extract_eq_zero_of_mask_FC b hb) rfl rfl
  case peerLenHi => exact decodesToRow_of_guard (extract_eq_zero_of_mask_F0 b hb) rfl rfl
  all_goals exact ⟨_, rfl, rfl⟩

/-- Whatever row a word selects, the word decodes to an operation with that row (R85). -/
theorem decodesToRow_of_selects {d : DWord} {r : OpcodeRow} (hr : r ∈ opcodeTable) (h : r.Selects d) :
    (DWord.fields d).DecodesToRow r := by
  rw [← Fields.toDWord_fields d] at h
  rw [opcodeTable, List.mem_append, List.mem_append] at hr
  rcases hr with hread | hwrite | hsys
  · obtain ⟨p, rfl⟩ := exists_port_of_mem_read r hread
    exact Fields.decodesToRow_of_read h
  · obtain ⟨p, rfl⟩ := exists_port_of_mem_write r hwrite
    exact Fields.decodesToRow_of_write h
  · obtain ⟨i, hp, rfl⟩ := exists_instr_of_mem_sys hsys
    exact Fields.decodesToRow_of_sys hp h

theorem Instr.row_mem_opcodeTable (i : Instr) : i.row ∈ opcodeTable := by
  cases i <;> simp only [Instr.row] <;> decide

open Laws.SelectsRow in
/-- The word of every operation selects the operation's row (R85). -/
theorem row_selects_encodeAt (i : Instr) : Statement i := by
  cases i
  exacts [
    rdComin, rdIfstat, rdDbcl, rdDbch, rdHead0, rdHead1, rdHead2, rdHead3, rdPtl, rdPth, rdWal, rdWah, rdStat0, rdStat1,
    rdStat2, rdStat3, wrSbout _, wrIfctrl _, wrDbcl _, wrDbch _, wrDacl _, wrDach _, wrDttrg _, wrDtack _, wrPtl _,
    wrPth _, wrCtrl0 _, wrCtrl1 _, wrWal _, wrWah _, wrCtrl2 _, wrReset _, awr _, tick, power _, peerCmdPush _,
    peerStsPop, peerSetPendDec, peerSetPendXfer, peerSetPendCmd, peerHdr0 _, peerHdr1 _, peerHdr2 _, peerHdr3 _,
    peerShdr0 _, peerShdr1 _, peerShdr2 _, peerShdr3 _, peerStsFlags _ _, peerXferFlags _ _ _ _, peerDest _, peerLenLo
    _, peerLenHi _, peerPtrLo _, peerPtrHi _, peerTgtLo _, peerTgtHi _, peerSrcLo _, peerSrcHi _]

/-- Settles O3: a word that decodes is the word of its operation, which selects the operation's row; a row that a word selects is the row
of what the word decodes to, so no other row is selected, and none by a refused word. -/
theorem validWordSelectsExactlyItsRow : Obligations.ValidWordSelectsExactlyItsRow := by
  intro d
  constructor
  · intro i hi
    refine ⟨i.row_mem_opcodeTable, fun r hr => ⟨fun hsel => ?_, ?_⟩⟩
    · obtain ⟨j, hj, rfl⟩ := decodesToRow_of_selects hr hsel
      obtain rfl : j = i := Decoded.instr.inj (hj.symm.trans hi)
      rfl
    · rintro rfl
      obtain ⟨hwf, henc⟩ := encodeOfDecodeIsTheWord d i hi
      have hsel := row_selects_encodeAt i (d.extractLsb' 16 4) hwf
      rwa [henc] at hsel
  · intro e he r hr hsel
    obtain ⟨j, hj, -⟩ := decodesToRow_of_selects hr hsel
    cases hj.symm.trans he

/-- Settles O4: each of the twenty words is closed, and the decoder is evaluated on it. -/
theorem writtenOutWordsDecode : Obligations.WrittenOutWordsDecode := by
  unfold Obligations.WrittenOutWordsDecode
  decide

end Sys2Proof
end

section
/-!
SUPPORT. What each operation leaves (R100, R120, R150 to R179), said once: `s.after i` is the next state of `i` on `s`, with the branches
of the six operations whose meaning branches on the state pushed into the fields they write. So every field that an operation does not
write is that field of `s` by rfl, and the frame statements are one look at each operation.
-/

namespace Sys2Proof.Machine

/-- A COMIN read takes the last unread command byte (R101). -/
def State.drains (s : State) : Bool := !s.cmd.empty && (s.cmd.pop s.params.cmdDepth).empty

/-- The state that `i` leaves where it completes (`eq_after_of_exec`). -/
def State.after (s : State) : Instr → State
  | .rdComin => { s with
      addr := 0#4
      hostData := some (if s.cmd.empty then 0xFF#8 else s.cmd.front)
      cmd := if s.cmd.empty then s.cmd else s.cmd.pop s.params.cmdDepth
      irq := { s.irq with cmd := { s.irq.cmd with pend := !s.drains && s.irq.cmd.pend } }
      irqOut := if s.drains then (s.irq.dec.en && s.irq.dec.pend) || (s.irq.xfer.en && s.irq.xfer.pend) else s.irqOut }
  | .wrSbout d => { s with
      addr := 0#4
      sts := { s.sts with
        toQueue := if s.statusGated then s.sts.toQueue else s.statusRoom.push s.params.stsDepth d
        active := !s.statusGated || s.sts.active
        busy := !s.statusGated || s.sts.busy } }
  | .wrIfctrl d => { s with
      addr := 2#4
      sts := { s.sts with enable := d[0], wait := !d[2] }
      xfer := { s.xfer with enable := d[1], wait := !d[3], active := d[1] && s.xfer.active, busy := d[1] && s.xfer.busy }
      ctl := { s.ctl with cmdbrk := !d[4] }
      irq := { dec := { en := d[5], pend := s.irq.dec.pend }
               xfer := { en := d[6], pend := s.irq.xfer.pend }
               cmd := { en := d[7], pend := s.irq.cmd.pend } }
      irqOut := (d[5] && s.irq.dec.pend) || (d[6] && s.irq.xfer.pend) || (d[7] && s.irq.cmd.pend) }
  | .wrDttrg _ => { s with
      addr := 7#4
      xfer := { s.xfer with
        active := s.xfer.enable || s.xfer.active
        busy := s.xfer.enable || s.xfer.busy
        done := !s.xfer.enable && s.xfer.done
        ready := if s.xfer.enable then s.params.cpuReadDests.contains s.xfer.dest else s.xfer.ready } }
  | .peerCmdPush b => { s with cmd := s.cmd.push s.params.cmdDepth b }
  | .peerStsPop => { s with
      peerData := if s.sts.empty then none else some s.sts.toQueue.front
      sts := { s.sts with toQueue := if s.sts.empty then s.sts.toQueue else s.sts.toQueue.pop s.params.stsDepth } }
  | i =>
    match exec i s with
    | .next t => t
    | _ => s

/-- An operation that completes leaves its `after`. -/
theorem eq_after_of_exec {i : Instr} {s t : State} (h : exec i s = .next t) : t = s.after i := by
  cases i
  case rdComin =>
    obtain ⟨he, rfl⟩ | ⟨he, u, rfl, ⟨hd, rfl⟩ | ⟨hd, rfl⟩⟩ := execRdComin_cases h
    · simp [State.after, State.drains, he]
    · simp only [State.after, State.drains, he, hd]
      simp [State.aggregate]
    · simp only [State.after, State.drains, he, hd]
      rfl
  case wrSbout d =>
    obtain ⟨hg, rfl⟩ | ⟨hg, rfl⟩ := execWrSbout_cases h <;> simp only [State.after, hg] <;> rfl
  case wrIfctrl d =>
    obtain ⟨hd, rfl⟩ | ⟨hd, rfl⟩ := execWrIfctrl_cases h <;> simp [State.after, State.aggregate, hd]
  case wrDttrg d =>
    obtain ⟨he, rfl⟩ | ⟨he, rfl⟩ := execWrDttrg_cases h
    · have hxfer : { s.xfer with enable := false } = s.xfer := by rw [← he]
      simp [State.after, he, hxfer]
    · simp [State.after, he]
  case peerCmdPush b => exact (execPeerCmdPush_cases h).2
  case peerStsPop =>
    obtain ⟨he, rfl⟩ | ⟨he, rfl⟩ := execPeerStsPop_cases h <;> simp only [State.after, he] <;> rfl
  all_goals exact (Host.Outcome.next.inj h).symm

/-- Every operation but the push answers its `after` in every state. -/
theorem exec_eq_next_after {i : Instr} (hpush : ∀ b, i ≠ .peerCmdPush b) (s : State) : exec i s = .next (s.after i) := by
  obtain ⟨t, ht⟩ | ⟨b, hb, -⟩ := exec_completes_or_push_full i s
  · rw [ht, eq_after_of_exec ht]
  · exact absurd hb (hpush b)

/-! ## The hidden fields -/

/-- Operations write only hidden fields from hidden fields. -/
theorem hide_after (i : Instr) (s : State) : (s.after i).hide = (s.hide.after i).hide := by
  cases i <;> rfl

/-- What an operation answers does not depend on the hidden fields: whether a push finds a free slot does not, nor does what is left. -/
theorem hide_exec (i : Instr) (s : State) : Answer.hide (exec i s) = Answer.hide (exec i s.hide) := by
  by_cases hpush : ∃ b, i = .peerCmdPush b
  · obtain ⟨b, rfl⟩ := hpush
    rw [exec_peerCmdPush, exec_peerCmdPush]
    by_cases hfree : s.cmd.count s.params.cmdDepth < s.params.cmdDepth
    · rw [if_pos hfree, if_pos (c := s.hide.cmd.count s.hide.params.cmdDepth < s.hide.params.cmdDepth) hfree]
      rfl
    · rw [if_neg hfree, if_neg (c := s.hide.cmd.count s.hide.params.cmdDepth < s.hide.params.cmdDepth) hfree]
  · have hnext := exec_eq_next_after (not_exists.1 hpush)
    rw [hnext s, hnext s.hide]
    exact congrArg Host.Outcome.next (hide_after i s)

theorem hide_step (s : State) : Answer.hide (step s) = Answer.hide (step s.hide) := by
  cases hin : s.inbox with
  | nil =>
    have hin' : s.hide.inbox = [] := hin
    rw [step_of_inbox_nil hin, step_of_inbox_nil hin']
    rfl
  | cons w rest =>
    have hin' : s.hide.inbox = w :: rest := hin
    cases hd : decode (s.addr ++ w) with
    | reject e =>
      have hd' : decode (s.hide.addr ++ w) = .reject e := hd
      rw [step_of_decode_reject hin hd, step_of_decode_reject hin' hd']
    | instr i =>
      have hd' : decode (s.hide.addr ++ w) = .instr i := hd
      rw [step_of_decode_instr hin hd, step_of_decode_instr hin' hd']
      exact hide_exec i { s with inbox := rest }

/-- Settles O53: the step of either state is, hidden, the step of the state that both hide to. -/
theorem hiddenStateNeverShows : Obligations.HiddenStateNeverShows := by
  intro s t h
  rw [hide_step s, h, ← hide_step t]

end Sys2Proof.Machine
end

section
/-!
SUPPORT. Who writes what: the counter (R203), the control bits, the decoder, the header caches and the selector (R30, R31, R36, R137),
the model's own fields (logs 1, 3, 4), the interrupt flags (R34, R194 to R196) and the line (R35, R192, R193). In each statement the
named cases are the writers, and every other operation keeps the field by rfl.
-/

namespace Sys2Proof.Machine

/-! ## Fields outside the queues and the interrupts -/

/-- Settles O55: every operation but the two leaves `cnt` out of its `after`. -/
theorem counterChangesOnlyByTickAndPower : Obligations.CounterChangesOnlyByTickAndPower := by
  intro i s t h
  obtain rfl := eq_after_of_exec h
  cases i
  case tick => exact fun _ => .inl rfl
  case power r => exact fun _ => .inr ⟨r, rfl⟩
  all_goals exact absurd rfl

theorem ctl_after (i : Instr) (s : State) : (s.after i).ctl ≠ s.ctl →
    (∃ d, i = .wrIfctrl d ∨ i = .wrCtrl0 d ∨ i = .wrCtrl1 d ∨ i = .wrCtrl2 d) ∨ ∃ r, i = .power r := by
  cases i
  case wrIfctrl d | wrCtrl0 d | wrCtrl1 d | wrCtrl2 d => exact fun _ => .inl ⟨d, by simp⟩
  case power r => exact fun _ => .inr ⟨r, rfl⟩
  all_goals exact absurd rfl

theorem dec_after (i : Instr) (s : State) : (s.after i).dec ≠ s.dec →
    (∃ d, i = .wrCtrl0 d ∨ i = .wrCtrl1 d) ∨ ∃ r, i = .power r := by
  cases i
  case wrCtrl0 d | wrCtrl1 d => exact fun _ => .inl ⟨d, by simp⟩
  case power r => exact fun _ => .inr ⟨r, rfl⟩
  all_goals exact absurd rfl

theorem hdr_after (i : Instr) (s : State) : (s.after i).hdr ≠ s.hdr →
    (∃ b, i = .peerHdr0 b ∨ i = .peerHdr1 b ∨ i = .peerHdr2 b ∨ i = .peerHdr3 b ∨ i = .wrReset b) ∨ ∃ r, i = .power r := by
  cases i
  case peerHdr0 b | peerHdr1 b | peerHdr2 b | peerHdr3 b | wrReset b => exact fun _ => .inl ⟨b, by simp⟩
  case power r => exact fun _ => .inr ⟨r, rfl⟩
  all_goals exact absurd rfl

theorem shdr_after (i : Instr) (s : State) : (s.after i).shdr ≠ s.shdr →
    (∃ b, i = .peerShdr0 b ∨ i = .peerShdr1 b ∨ i = .peerShdr2 b ∨ i = .peerShdr3 b ∨ i = .wrReset b) ∨ ∃ r, i = .power r := by
  cases i
  case peerShdr0 b | peerShdr1 b | peerShdr2 b | peerShdr3 b | wrReset b => exact fun _ => .inl ⟨b, by simp⟩
  case power r => exact fun _ => .inr ⟨r, rfl⟩
  all_goals exact absurd rfl

theorem dest_after (i : Instr) (s : State) : (s.after i).xfer.dest ≠ s.xfer.dest →
    (∃ n, i = .peerDest n) ∨ ∃ r, i = .power r := by
  cases i
  case peerDest n => exact fun _ => .inl ⟨n, rfl⟩
  case power r => exact fun _ => .inr ⟨r, rfl⟩
  all_goals exact absurd rfl

/-- Settles O56, field by field. -/
theorem fieldsHaveOnlyTheirWriters : Obligations.FieldsHaveOnlyTheirWriters := by
  intro i s t h
  obtain rfl := eq_after_of_exec h
  exact ⟨ctl_after i s, dec_after i s, hdr_after i s, shdr_after i s, dest_after i s⟩

@[simp] theorem params_after (i : Instr) (s : State) : (s.after i).params = s.params := by
  cases i <;> rfl

@[simp] theorem inbox_after (i : Instr) (s : State) : (s.after i).inbox = s.inbox := by
  cases i <;> rfl

theorem hostData_after (i : Instr) (s : State) : (s.after i).hostData ≠ s.hostData → encode i = 0x0000#16 := by
  cases i
  case rdComin | rdIfstat | rdDbcl | rdDbch | rdHead0 | rdHead1 | rdHead2 | rdHead3 | rdPtl | rdPth | rdWal | rdWah | rdStat0 |
      rdStat1 | rdStat2 | rdStat3 => exact fun _ => by decide
  all_goals exact absurd rfl

theorem peerData_after (i : Instr) (s : State) : (s.after i).peerData ≠ s.peerData → i = .peerStsPop := by
  cases i
  case peerStsPop => exact fun _ => rfl
  all_goals exact absurd rfl

/-- Settles O57, field by field. -/
theorem ownFieldsChangeOnlyAsStated : Obligations.OwnFieldsChangeOnlyAsStated := by
  intro i s t h
  obtain rfl := eq_after_of_exec h
  exact ⟨params_after i s, inbox_after i s, hostData_after i s, peerData_after i s⟩

/-! ## The interrupt flags -/

/-- A COMIN read drains the queue where it finds a byte and leaves none. -/
theorem State.drains_iff (s : State) :
    s.drains = true ↔ s.cmd.empty = false ∧ (s.after .rdComin).cmd.empty = true := by
  cases he : s.cmd.empty <;> simp [State.drains, State.after, he]

theorem decPend_after (i : Instr) (s : State) : (s.after i).irq.dec.pend ≠ s.irq.dec.pend →
    ((s.after i).irq.dec.pend = true ∧ i = .peerSetPendDec) ∨
    ((s.after i).irq.dec.pend = false ∧ (i = .rdStat3 ∨ ∃ r, i = .power r)) := by
  cases i
  case peerSetPendDec => exact fun _ => .inl ⟨rfl, rfl⟩
  case rdStat3 => exact fun _ => .inr ⟨rfl, .inl rfl⟩
  case power r => exact fun _ => .inr ⟨rfl, .inr ⟨r, rfl⟩⟩
  all_goals exact absurd rfl

theorem xferPend_after (i : Instr) (s : State) : (s.after i).irq.xfer.pend ≠ s.irq.xfer.pend →
    ((s.after i).irq.xfer.pend = true ∧ i = .peerSetPendXfer) ∨
    ((s.after i).irq.xfer.pend = false ∧ ((∃ d, i = .wrDtack d) ∨ ∃ r, i = .power r)) := by
  cases i
  case peerSetPendXfer => exact fun _ => .inl ⟨rfl, rfl⟩
  case wrDtack d => exact fun _ => .inr ⟨rfl, .inl ⟨d, rfl⟩⟩
  case power r => exact fun _ => .inr ⟨rfl, .inr ⟨r, rfl⟩⟩
  all_goals exact absurd rfl

theorem cmdPend_after (i : Instr) (s : State) : (s.after i).irq.cmd.pend ≠ s.irq.cmd.pend →
    ((s.after i).irq.cmd.pend = true ∧ i = .peerSetPendCmd) ∨
    ((s.after i).irq.cmd.pend = false ∧
      ((i = .rdComin ∧ s.cmd.empty = false ∧ (s.after i).cmd.empty = true) ∨ ∃ r, i = .power r)) := by
  cases i
  case peerSetPendCmd => exact fun _ => .inl ⟨rfl, rfl⟩
  case rdComin =>
    have hpend : (s.after .rdComin).irq.cmd.pend = (!s.drains && s.irq.cmd.pend) := rfl
    rw [hpend]
    cases hd : s.drains
    · exact absurd rfl -- a byte is left, or none was there
    · exact fun _ => .inr ⟨rfl, .inl ⟨rfl, s.drains_iff.1 hd⟩⟩
  case power r => exact fun _ => .inr ⟨rfl, .inr ⟨r, rfl⟩⟩
  all_goals exact absurd rfl

theorem enables_after (i : Instr) (s : State) :
    (s.after i).irq.dec.en ≠ s.irq.dec.en ∨ (s.after i).irq.xfer.en ≠ s.irq.xfer.en ∨ (s.after i).irq.cmd.en ≠ s.irq.cmd.en →
    (∃ d, i = .wrIfctrl d) ∨ ∃ r, i = .power r := by
  cases i
  case wrIfctrl d => exact fun _ => .inl ⟨d, rfl⟩
  case power r => exact fun _ => .inr ⟨r, rfl⟩
  all_goals exact fun h => h.elim (absurd rfl) (·.elim (absurd rfl) (absurd rfl))

/-- Settles O45, flag by flag. -/
theorem interruptFlagsChangeOnlyAsListed : Obligations.InterruptFlagsChangeOnlyAsListed := by
  intro i s t h
  obtain rfl := eq_after_of_exec h
  exact ⟨decPend_after i s, xferPend_after i s, cmdPend_after i s, enables_after i s⟩

/-! ## The line -/

/-- A COMIN read that drains the queue polls with the command's flag cleared (R101). -/
theorem aggregate_after_rdComin {s : State} (hd : s.drains = true) :
    (s.after .rdComin).irqOut = (s.after .rdComin).aggregate := by
  simp [State.after, State.aggregate, hd]

/-- Settles O44: the two resets clear the line, a poll point sets it to the aggregate, and every other operation keeps it, each by
`State.after`. -/
theorem lineIsWrittenOnlyAtPollPointsAndResets : Obligations.LineIsWrittenOnlyAtPollPointsAndResets := by
  intro i s t h
  obtain rfl := eq_after_of_exec h
  cases i
  case rdComin =>
    show _ = if _ then _ else _
    cases hd : s.drains
    · have hkeep : ¬ (s.cmd.empty = false ∧ (s.after .rdComin).cmd.empty = true) := by simp [← s.drains_iff, hd]
      rw [if_neg hkeep]
      simp [State.after, hd]
    · rw [if_pos (s.drains_iff.1 hd)]
      exact aggregate_after_rdComin hd
  all_goals rfl

/-- The line and its aggregate: polled, or both kept, or the line dropped by a software reset (R193). -/
theorem line_after (i : Instr) (s : State) :
    (s.after i).irqOut = (s.after i).aggregate ∨
    ((s.after i).irqOut = s.irqOut ∧ (s.after i).aggregate = s.aggregate) ∨
    ((s.after i).irqOut = false ∧ ∃ d, i = .wrReset d) := by
  cases i
  case rdComin =>
    cases hd : s.drains
    · exact .inr (.inl (by simp [State.after, State.aggregate, hd]))
    · exact .inl (aggregate_after_rdComin hd)
  case rdStat3 | wrIfctrl d | wrDtack d | power r | peerSetPendDec | peerSetPendXfer | peerSetPendCmd => exact .inl rfl
  case wrReset d => exact .inr (.inr ⟨rfl, d, rfl⟩)
  all_goals exact .inr (.inl ⟨rfl, rfl⟩)

/-- Settles O50: a step that is no software reset polls, or keeps the line and the aggregate. -/
theorem lineFollowsTheAggregateBetweenResets : Obligations.LineFollowsTheAggregateBetweenResets := by
  intro s t hline h hreset
  obtain ⟨-, rfl⟩ | ⟨w, rest, i, hin, hd, hexec⟩ := step_cases h
  · exact hline
  · obtain rfl := eq_after_of_exec hexec
    obtain hpoll | ⟨hout, hagg⟩ | ⟨-, d, rfl⟩ := line_after i { s with inbox := rest }
    · exact hpoll
    · exact hout.trans (hline.trans hagg.symm)
    · exact absurd hd (hreset w rest d hin)

/-! ## The peer -/

/-- Settles O54: no peer action is among the writers of these fields, and one that writes a pending flag or the line sets a flag. -/
theorem peerTouchesNoHostState : Obligations.PeerTouchesNoHostState := by
  intro i s t hpeer h
  obtain rfl := eq_after_of_exec h
  cases i
  case peerSetPendDec => simp [State.after, exec, execPeerSetPendDec]
  case peerSetPendXfer => simp [State.after, exec, execPeerSetPendXfer]
  case peerSetPendCmd => simp [State.after, exec, execPeerSetPendCmd]
  all_goals cases hpeer -- closes what is no peer action
  all_goals exact ⟨rfl, rfl, rfl, rfl, rfl, rfl, rfl, rfl, id, id, id, absurd rfl⟩

end Sys2Proof.Machine
end

section
/-!
SUPPORT. The two queues as lists (10_state.md R26, R27; R101, R121, R171, R172), and the invariant and the bound of the status queue
along every step (R25, R33, R37, R193, R121).
-/

namespace Sys2Proof.Machine

/-! ## A read by its list -/

theorem Queue.isEmpty_contents (depth : Nat) (q : Queue) : (q.contents depth).isEmpty = q.empty := by
  rw [Bool.eq_iff_iff, List.isEmpty_iff, Queue.contents_eq_nil_iff]

/-- A read moves the read index, and the empty flag says whether a byte is left. -/
theorem Queue.pop_eq (depth : Nat) (q : Queue) :
    q.pop depth = { q with read := (q.read + 1) % depth, empty := ((q.pop depth).contents depth).isEmpty } := by
  rw [Queue.isEmpty_contents]
  rfl

/-- The queue that the COMIN read and the peer's pop leave, as a list: without its oldest byte, if it has one. -/
theorem Queue.contents_ite_pop {depth : Nat} {q : Queue} (h : q.Wf depth) :
    (if q.empty then q else q.pop depth).contents depth = (q.contents depth).tail := by
  split
  next he => rw [Queue.contents_of_empty he, List.tail_nil]
  next hne => exact Queue.contents_pop h (Bool.eq_false_iff.2 hne)

theorem Queue.wf_ite_pop {depth : Nat} {q : Queue} (h : q.Wf depth) : (if q.empty then q else q.pop depth).Wf depth := by
  split
  · exact h
  · exact Queue.wf_pop h

theorem Queue.head?_contents {depth : Nat} {q : Queue} (h : q.Wf depth) :
    (q.contents depth).head? = if q.empty then none else some q.front := by
  split
  next he => rw [Queue.contents_of_empty he, List.head?_nil]
  next hne => rw [Queue.contents_eq_cons h (Bool.eq_false_iff.2 hne), List.head?_cons]

/-! ## The status append by its list -/

/-- The number of unread bytes at which a status write discards the oldest (R7, R121). -/
def Params.evictAt (p : Params) : Nat :=
  match p.stsEvict with
  | .one => 1
  | .full => p.stsDepth

theorem Params.evictAt_pos (p : Params) : 0 < evictAt p := by
  unfold evictAt
  split
  · exact Nat.one_pos
  · exact stsDepth_pos p

theorem Params.evictAt_le (p : Params) : evictAt p ≤ p.stsDepth := by
  unfold evictAt
  split
  · exact stsDepth_pos p
  · exact le_rfl

theorem stsAppended_eq (p : Params) (q : List Byte) (d : Byte) :
    stsAppended p q d = (if q.length = Params.evictAt p then q.tail else q) ++ [d] := rfl

theorem State.statusEvicts_iff (s : State) :
    s.statusEvicts = true ↔ s.sts.toQueue.count s.params.stsDepth = Params.evictAt s.params := by
  unfold State.statusEvicts Params.evictAt
  cases s.params.stsEvict <;> exact decide_eq_true_iff

theorem State.count_sts_le {s : State} (h : s.sts.toQueue.Wf s.params.stsDepth) (hb : s.StatusBounded) :
    s.sts.toQueue.count s.params.stsDepth ≤ Params.evictAt s.params := by
  unfold Params.evictAt
  split
  next hone => exact hb hone
  next => exact Queue.count_le h

/-- An accepted status write appends its byte, after the eviction (R121): the eviction leaves a free slot, and so does a queue that
does not evict. -/
theorem State.contents_statusRoom_push {s : State} (d : Byte) (h : s.sts.toQueue.Wf s.params.stsDepth) (hb : s.StatusBounded) :
    (s.statusRoom.push s.params.stsDepth d).contents s.params.stsDepth = stsAppended s.params s.stsContents d := by
  have hpos := Params.evictAt_pos s.params
  have hle := Params.evictAt_le s.params
  have hcount := State.count_sts_le h hb
  rw [State.statusRoom_push, stsAppended_eq, State.stsContents, Queue.contents_length]
  split
  next hev =>
    have hfull := s.statusEvicts_iff.1 hev
    have hne : s.sts.empty = false := by
      by_contra he
      have := Queue.count_of_empty (depth := s.params.stsDepth) (Bool.not_eq_false _ ▸ he)
      omega
    rw [if_pos hfull, Queue.contents_push d (Queue.wf_pop h) (by rw [Queue.count_pop h hne]; omega), Queue.contents_pop h hne]
  next hev =>
    have hroom := mt s.statusEvicts_iff.2 hev
    rw [if_neg hroom, Queue.contents_push d h (by omega)]

/-! ## One operation on the queues -/

theorem wf_cmd_after {s : State} (i : Instr) (h : s.cmd.Wf s.params.cmdDepth) : (s.after i).cmd.Wf s.params.cmdDepth := by
  cases i
  case rdComin => exact Queue.wf_ite_pop h
  case peerCmdPush b => exact Queue.wf_push b h
  case wrReset d | power r => exact Queue.wf_cleared (Params.cmdDepth_pos _)
  all_goals exact h

theorem wf_sts_after {s : State} (i : Instr) (h : s.sts.toQueue.Wf s.params.stsDepth) :
    (s.after i).sts.toQueue.Wf s.params.stsDepth := by
  cases i
  case wrSbout d =>
    show (if s.statusGated then s.sts.toQueue else s.statusRoom.push s.params.stsDepth d).Wf _
    split
    · exact h
    · exact State.wf_statusAppend (d := d) h
  case peerStsPop => exact Queue.wf_ite_pop h
  case wrReset d | power r => exact Queue.wf_cleared (Params.stsDepth_pos _)
  all_goals exact h

theorem cmdContents_of_exec {i : Instr} {s t : State} (h : s.cmd.Wf s.params.cmdDepth) (hexec : exec i s = .next t) :
    t.cmdContents = i.cmdAfter s.cmdContents := by
  obtain rfl := eq_after_of_exec hexec
  cases i
  case rdComin => exact Queue.contents_ite_pop h
  case peerCmdPush b => exact Queue.contents_push b h (execPeerCmdPush_cases hexec).1
  case wrReset d | power r => exact Queue.contents_cleared _
  all_goals rfl

theorem stsContents_after {s : State} (i : Instr) (h : s.sts.toQueue.Wf s.params.stsDepth) (hb : s.StatusBounded) :
    (s.after i).stsContents = i.stsAfter s.params s.statusGated s.stsContents := by
  cases i
  case wrSbout d =>
    show (if s.statusGated then s.sts.toQueue else s.statusRoom.push s.params.stsDepth d).contents _ = if _ then _ else _
    split
    · rfl
    · exact State.contents_statusRoom_push d h hb
  case peerStsPop => exact Queue.contents_ite_pop h
  case wrReset d | power r => exact Queue.contents_cleared _
  all_goals rfl

/-- Settles O52: `State.after` on each queue is the list operation on its contents. -/
theorem queuesRefineLists : Obligations.QueuesRefineLists := by
  intro i s t hinv hb hexec
  refine ⟨cmdContents_of_exec hinv.cmd hexec, ?_, ?_, ?_⟩
  all_goals obtain rfl := eq_after_of_exec hexec
  · exact stsContents_after i hinv.sts hb
  · rintro rfl
    show some _ = _
    rw [List.headD_eq_head?_getD, State.cmdContents, Queue.head?_contents hinv.cmd]
    split <;> rfl
  · rintro rfl
    exact (Queue.head?_contents hinv.sts).symm

/-! ## The four operations that move one byte -/

/-- Settles O17: the queue after the read is the rest of the list, and the read drains exactly where the rest is empty. -/
theorem readCommandByteDequeuesOldest : Obligations.ReadCommandByteDequeuesOldest := by
  intro s h hne
  have hcons := Queue.contents_eq_cons h hne
  have hdrains : s.drains = ((s.cmd.pop s.params.cmdDepth).contents s.params.cmdDepth).isEmpty := by
    rw [Queue.isEmpty_contents, State.drains, hne]
    rfl
  refine ⟨_, _, _, exec_eq_next_after (by simp) s, hcons, ?_, ?_⟩
  · simp [State.cmdContents, State.after, hne]
  · simp only [State.after, hne, hdrains, List.isEmpty_iff, ← Queue.pop_eq]
    rfl

/-- Settles O37: what is left is the tail of the list, and the empty flag says whether it is empty. -/
theorem peerPopTakesOldest : Obligations.PeerPopTakesOldest := by
  intro s h
  have hexec : exec .peerStsPop s = .next (s.after .peerStsPop) := exec_eq_next_after (by simp) s
  refine ⟨fun he => ?_, fun hne => ⟨_, _, _, hexec, Queue.contents_eq_cons h hne, ?_, ?_⟩⟩
  · simp [hexec, State.after, he]
  · simp [State.stsContents, State.after, hne]
  · simp only [State.after, hne, Queue.isEmpty_contents]
    rfl

/-- Settles O35: the push completes and appends. -/
theorem peerPushAppends : Obligations.PeerPushAppends := by
  intro s b h hfree
  exact ⟨_, (exec_peerCmdPush b s).trans (if_pos hfree), Queue.contents_push b h hfree, rfl⟩

/-- Settles O36: a full queue's length is its count, which leaves no slot. -/
theorem peerPushIntoFullQueueIsRefused : Obligations.PeerPushIntoFullQueueIsRefused := by
  intro s b hfull
  have hcount : s.cmd.count s.params.cmdDepth = s.params.cmdDepth := (Queue.contents_length _ _).symm.trans hfull
  exact (exec_peerCmdPush b s).trans (if_neg (by omega))

/-- Making room moves the read index only. -/
theorem State.statusRoom_fields (s : State) : s.statusRoom.fifo = s.sts.fifo ∧ s.statusRoom.write = s.sts.write := by
  unfold State.statusRoom
  split <;> exact ⟨rfl, rfl⟩

/-- Settles O19: an open gate leaves the append, whose room differs from the queue in the read index alone. -/
theorem statusWriteAppends : Obligations.StatusWriteAppends := by
  intro s d _ h hb hopen
  have hgate : s.statusGated = false := by
    rw [State.statusGated, Bool.and_eq_false_iff]
    exact hopen
  have hsts : (s.after (.wrSbout d)).sts =
      { s.sts with toQueue := s.statusRoom.push s.params.stsDepth d, active := true, busy := true } := by
    simp [State.after, hgate]
  obtain ⟨hfifo, hwrite⟩ := s.statusRoom_fields
  refine ⟨_, exec_eq_next_after (by simp) s, ?_, ?_, ?_, ?_, ?_, ?_, ?_, ?_, rfl⟩
  · rw [stsContents_after _ h hb]
    simp [Instr.stsAfter, hgate]
  all_goals simp [hsts, hfifo, hwrite]

/-! ## Along every step -/

/-- What holds of a state whatever its inbox, and is kept by every operation that completes, is kept by every step. -/
theorem step_keeps {P : State → Prop} (hinbox : ∀ s rest, P s → P { s with inbox := rest })
    (hexec : ∀ i s t, P s → exec i s = .next t → P t) {s t : State} (hs : P s) (h : step s = .next t) : P t := by
  obtain ⟨-, rfl⟩ | ⟨w, rest, i, -, -, hi⟩ := step_cases h
  · exact hs
  · exact hexec i _ t (hinbox s rest hs) hi

theorem decoderDerived_after {s : State} (i : Instr) (h : s.DecoderDerived) : (s.after i).DecoderDerived := by
  cases i
  case wrCtrl0 d | wrCtrl1 d | power r => exact ⟨rfl, rfl⟩
  all_goals exact h

theorem cnt_after_lt {s : State} (i : Instr) (h : s.cnt < 2 ^ s.params.cntWidth) : (s.after i).cnt < 2 ^ s.params.cntWidth := by
  cases i
  case tick => exact Nat.mod_lt _ (Nat.two_pow_pos _)
  case power r => exact Nat.two_pow_pos _
  all_goals exact h

theorem lineJustified_after {s : State} (i : Instr) (h : s.LineJustified) : (s.after i).LineJustified := by
  intro hup
  obtain hpoll | ⟨hout, hagg⟩ | ⟨hlow, -⟩ := line_after i s
  · exact hpoll.symm.trans hup
  · exact hagg.trans (h (hout.symm.trans hup))
  · exact absurd hup (by simp [hlow])

theorem inv_of_exec {i : Instr} {s t : State} (h : s.Inv) (hexec : exec i s = .next t) : t.Inv := by
  obtain rfl := eq_after_of_exec hexec
  constructor
  case line => exact lineJustified_after i h.line
  case decoder => exact decoderDerived_after i h.decoder
  all_goals rw [params_after]
  · exact h.legal
  · exact wf_cmd_after i h.cmd
  · exact wf_sts_after i h.sts
  · exact cnt_after_lt i h.counter

theorem State.Inv.withInbox {s : State} (rest : List TWord) (h : s.Inv) : State.Inv { s with inbox := rest } :=
  ⟨h.legal, h.cmd, h.sts, h.decoder, h.counter, h.line⟩

/-- Settles O49: every operation keeps every part of the invariant, and no part reads the inbox. -/
theorem stepKeepsTheInvariant : Obligations.StepKeepsTheInvariant := fun _ _ =>
  step_keeps (fun _ rest => State.Inv.withInbox rest) (fun _ _ _ => inv_of_exec)

/-- Where the eviction is at one byte, a list of at most one byte stays one. -/
theorem length_stsAfter_le_one {p : Params} (hone : p.stsEvict = .one) (gated : Bool) {q : List Byte} (hq : q.length ≤ 1) (i : Instr) :
    (i.stsAfter p gated q).length ≤ 1 := by
  unfold Instr.stsAfter
  split
  next => -- WR.SBOUT
    split
    · exact hq
    · simp only [stsAppended, hone, List.length_append, List.length_singleton]
      split
      · simp; omega
      · omega
  next => simp; omega
  next => exact Nat.zero_le _
  next => exact Nat.zero_le _
  next => exact hq

theorem statusBounded_of_exec {i : Instr} {s t : State} (h : s.Inv) (hb : s.StatusBounded) (hexec : exec i s = .next t) :
    t.StatusBounded := by
  obtain rfl := eq_after_of_exec hexec
  intro hone
  rw [params_after] at hone
  rw [← Queue.contents_length]
  show (s.after i).stsContents.length ≤ 1
  rw [stsContents_after i h.sts hb]
  exact length_stsAfter_le_one hone _ ((Queue.contents_length _ _).trans_le (hb hone)) i

/-- Settles O51: the bound is kept together with the invariant that the list operations need. -/
theorem statusQueueHoldsAtMostOneByte : Obligations.StatusQueueHoldsAtMostOneByte := fun _ _ hinv hb h =>
  (step_keeps (P := fun u => u.Inv ∧ u.StatusBounded) (fun _ rest hu => ⟨hu.1.withInbox rest, hu.2⟩)
    (fun _ _ _ hu hexec => ⟨inv_of_exec hu.1 hexec, statusBounded_of_exec hu.1 hu.2 hexec⟩) ⟨hinv, hb⟩ h).2

/-- Settles O48: both queues are cleared ones, and every flag is 0. -/
theorem creationMeetsTheInvariant : Obligations.CreationMeetsTheInvariant := by
  have hinv : ∀ p : Params, p.Legal → (State.powerOn p).Inv := fun p hp =>
    { legal := hp
      cmd := Queue.wf_cleared (Params.cmdDepth_pos p)
      sts := Queue.wf_cleared (Params.stsDepth_pos p)
      decoder := ⟨rfl, rfl⟩
      counter := Nat.two_pow_pos _
      line := nofun }
  exact ⟨fun p hp => ⟨hinv p hp, rfl, fun _ => (Queue.count_cleared _).trans_le (Nat.zero_le 1)⟩, rfl,
    hinv Params.default (by decide)⟩

end Sys2Proof.Machine
end

section
/-!
SUPPORT. One step by what arrives (30_encoding.md R85, R86), and the run of every host access (R100, R120).
-/

namespace Sys2Proof.Machine

/-- Settles O5. -/
theorem stepRunsTheDecodedOperation : Obligations.StepRunsTheDecodedOperation := fun _ _ _ _ => step_of_decode_instr

/-- Settles O6. -/
theorem stepRefusesInvalidWordsByName : Obligations.StepRefusesInvalidWordsByName := fun _ _ _ _ => step_of_decode_reject

/-- Settles O7. -/
theorem stepWithNoOperationKeepsTheState : Obligations.StepWithNoOperationKeepsTheState := fun _ => step_of_inbox_nil

/-- The word of a data read decodes, at every pointer, to the read of that port. -/
theorem decode_read_word (addr : Port) : decode (addr ++ 0x0000#16) = .instr (readInstr addr) := by
  rw [decode, DWord.fields_append]
  rfl

/-- The word of a data write decodes, at every pointer, to the write of its byte to that port. -/
theorem decode_write_word (addr : Port) (d : Byte) : decode (addr ++ (0x40#8 ++ d)) = .instr (writeInstr addr d) := by
  have hkind : (0x40#8 ++ d).extractLsb' 14 2 = 0b01#2 := extract_within_high 0x40#8 d 14 2 (by omega)
  have hsysop : (0x40#8 ++ d).extractLsb' 8 6 = 0#6 := extract_within_high 0x40#8 d 8 6 (by omega)
  have hpayload : (0x40#8 ++ d).extractLsb' 0 8 = d := extract_low_append 0x40#8 d
  rw [decode, DWord.fields_append, hkind, hsysop, hpayload]
  rfl

theorem readInstr_port (p : Port) : (readInstr p).port? = some p := by decide +revert

theorem writeInstr_port (p : Port) (d : Byte) : (writeInstr p d).port? = some p := by
  obtain ⟨⟨n, hn⟩⟩ := p
  interval_cases n <;> rfl

/-- Settles O47: the word decodes to the access of the pointer's port, which completes and goes to the next port of the table. -/
theorem everyHostAccessCompletes : Obligations.EveryHostAccessCompletes := by
  intro s w rest hin hw
  obtain ⟨i, hd, hp⟩ : ∃ i, decode (s.addr ++ w) = .instr i ∧ i.port? = some s.addr := by
    obtain rfl | ⟨d, rfl⟩ := hw
    · exact ⟨_, decode_read_word s.addr, readInstr_port s.addr⟩
    · exact ⟨_, decode_write_word s.addr d, writeInstr_port s.addr d⟩
  obtain ⟨u, hu⟩ := exec_eq_next_advance_of_port hp { s with inbox := rest }
  obtain ⟨hedge, hinner⟩ : (s.addr = 0#4 ∨ s.addr = 15#4 → (u.advance s.addr).addr = 0#4) ∧
      (1 ≤ s.addr.toNat ∧ s.addr.toNat ≤ 14 → (u.advance s.addr).addr.toNat = s.addr.toNat + 1) := by
    simpa only [hp] using pointerFollowsThePerPortTable i _ _ hu
  obtain ⟨-, hinbox, -, -⟩ := ownFieldsChangeOnlyAsStated i _ _ hu
  exact ⟨_, (step_of_decode_instr hin hd).trans hu, hinbox, hedge, hinner⟩

end Sys2Proof.Machine
end

section
/-!
SUPPORT. The read ports (40_read_ports.md): the byte, the acknowledge and the frame of each.
-/

namespace Sys2Proof.Machine

/-! ## The bytes of the packed registers -/

theorem State.ifstat_flags (s : State) :
    s.ifstat[5] = !s.irq.dec.pend ∧ s.ifstat[6] = !s.irq.xfer.pend ∧ s.ifstat[7] = !s.irq.cmd.pend := by
  simp [State.ifstat]

theorem State.stat0_eq (s : State) : s.stat0 = if s.dec.enable = true then 0x80#8 else 0x00#8 := by
  unfold State.stat0
  cases s.dec.enable <;> rfl

theorem State.stat2_eq (s : State) :
    s.stat2 = (if s.dec.mode = true then 0x08#8 else 0x00#8) ||| (if s.dec.form = true then 0x04#8 else 0x00#8) := by
  unfold State.stat2
  cases s.dec.mode <;> cases s.dec.form <;> rfl

/-! ## The reads -/

/-- Settles O9: each bit of the packed byte is its flag. -/
theorem readInterfaceStatus : Obligations.ReadInterfaceStatus := by
  intro s
  refine ⟨s.ifstat, exec_eq_next_of_hostRead (p := 1#4) rfl (by decide), ?_⟩
  simp [State.ifstat]

/-- Settles O11: the byte is the nibble appended to four zeros. -/
theorem readLengthHighNibble : Obligations.ReadLengthHighNibble := fun s =>
  ⟨lengthHigh s.xfer.length, exec_eq_next_of_hostRead (p := 3#4) rfl (by decide), extract_low_append _ _, extract_high_append _ _⟩

/-- Settles O12: the byte of each port is `State.headByte` of its two bytes. -/
theorem readHeaderOrSubheader : Obligations.ReadHeaderOrSubheader := fun _ =>
  ⟨exec_eq_next_of_hostRead (p := 4#4) rfl (by decide), exec_eq_next_of_hostRead (p := 5#4) rfl (by decide),
    exec_eq_next_of_hostRead (p := 6#4) rfl (by decide), exec_eq_next_of_hostRead (p := 7#4) rfl (by decide)⟩

/-- Settles O14: the two bytes by their set bits. -/
theorem readStatusZeroAndTwo : Obligations.ReadStatusZeroAndTwo := by
  intro s
  rw [← s.stat0_eq, ← s.stat2_eq]
  exact ⟨exec_eq_next_of_hostRead (p := 12#4) rfl (by decide), exec_eq_next_of_hostRead (p := 14#4) rfl (by decide)⟩

/-- The line after a poll with the decoder's flag cleared is up for the other two sources. -/
theorem State.aggregate_setDecPend_false (s : State) :
    (s.setDecPend false).aggregate = ((s.irq.xfer.en && s.irq.xfer.pend) || (s.irq.cmd.en && s.irq.cmd.pend)) := by
  simp [State.aggregate]

/-- Settles O15: the read clears the flag before it polls. -/
theorem readStatusByteThreeAcknowledgesDecoder : Obligations.ReadStatusByteThreeAcknowledgesDecoder := by
  intro s
  rw [← s.aggregate_setDecPend_false]
  have hread : exec .rdStat3 s = hostRead 15#4 stat3 (s.setDecPend false).poll := rfl
  exact exec_eq_next_of_hostRead hread (by decide)

/-- Settles O16: no byte is taken, so nothing is drained. -/
theorem readEmptyCommandQueue : Obligations.ReadEmptyCommandQueue := by
  intro s he
  simp [exec_eq_next_after (i := .rdComin) (by simp) s, State.after, State.drains, he]

end Sys2Proof.Machine
end

section
/-!
SUPPORT. The write ports (41_write_ports.md), the resets and power, and what the host reads after them (R197, R221, R222).
-/

namespace Sys2Proof.Machine

/-! ## Writes -/

/-- Settles O18: a closed gate leaves the pointer's write alone. -/
theorem gatedStatusWriteIsDropped : Obligations.GatedStatusWriteIsDropped := by
  intro s d hwait hbusy
  have hgate : s.statusGated = true := by simp [State.statusGated, hwait, hbusy]
  simp [exec_eq_next_after (i := .wrSbout d) (by simp) s, State.after, hgate]

/-- Settles O20: the state is `State.after`, with the abort and the poll in the fields. -/
theorem interfaceControlWrite : Obligations.InterfaceControlWrite := fun s _ => exec_eq_next_after (by simp) s

/-- Settles O22. -/
theorem lengthHighWrite : Obligations.LengthHighWrite := fun _ _ => rfl

/-- Settles O23, by the enable. -/
theorem transferTrigger : Obligations.TransferTrigger := by
  intro s d
  constructor
  · intro he
    simp only [exec, execWrDttrg, he]
    rfl
  · intro he
    simp [exec, execWrDttrg, State.triggerTransfer, nextPort, he]

/-- The line after a poll with the transfer's flag cleared is up for the other two sources. -/
theorem State.aggregate_setXferPend_false (s : State) :
    (s.setXferPend false).aggregate = ((s.irq.dec.en && s.irq.dec.pend) || (s.irq.cmd.en && s.irq.cmd.pend)) := by
  simp [State.aggregate]

/-- Settles O24: the write clears the flag before it polls. -/
theorem transferAcknowledge : Obligations.TransferAcknowledge := by
  intro s d
  rw [← s.aggregate_setXferPend_false]
  rfl

/-- Settles O25. -/
theorem controlZeroAndOneWrites : Obligations.ControlZeroAndOneWrites := fun _ _ => ⟨rfl, rfl⟩

/-- Settles O26. -/
theorem controlTwoWrite : Obligations.ControlTwoWrite := fun _ _ => rfl

/-- Settles O27: the cleared fields of the software reset are those of creation. -/
theorem softwareResetEffect : Obligations.SoftwareResetEffect := fun _ _ => rfl

/-! ## Pointer, tick and power -/

/-- Settles O30. -/
theorem addressWriteLoadsPointer : Obligations.AddressWriteLoadsPointer := fun _ _ => rfl

/-- Settles O31. -/
theorem tickAdvancesCounter : Obligations.TickAdvancesCounter := fun _ => rfl

/-- Settles O32. -/
theorem powerRestoresCreation : Obligations.PowerRestoresCreation := fun s r => exec_power r s

/-! ## What the host reads afterwards -/

@[simp] theorem State.hostReads_rdIfstat_iff {s : State} {b : Byte} : s.HostReads .rdIfstat b ↔ s.ifstat = b :=
  State.hostReads_iff_of_exec rfl

theorem State.hostReads_rdComin_of_empty {s : State} (he : s.cmd.empty = true) : s.HostReads .rdComin 0xFF#8 :=
  ⟨_, readEmptyCommandQueue s he, rfl⟩

theorem packByte_low_ones (b7 b6 b5 : Bool) : (packByte b7 b6 b5 true true true true true).extractLsb' 0 5 = 0b11111#5 := by
  decide +revert

/-- Settles O28: the five flags that IFSTAT shows low are cleared, the pending flags are not. -/
theorem readsAfterSoftwareReset : Obligations.ReadsAfterSoftwareReset := by
  intro s d
  exact ⟨_, _, rfl, Queue.contents_cleared _, State.hostReads_rdComin_of_empty rfl, State.hostReads_rdIfstat_iff.2 rfl,
    packByte_low_ones _ _ _, State.ifstat_flags _⟩

theorem State.ifstat_powerClear (s : State) : s.powerClear.ifstat = 0xFF#8 := by
  show packByte true true true true true true true true = 0xFF#8
  decide

/-- Settles O34: the fields of the cleared state, and what IFSTAT makes of its flags. -/
theorem stateAfterPower : Obligations.StateAfterPower := fun s r =>
  ⟨_, exec_power r s, rfl, rfl, rfl, rfl, rfl, Queue.contents_cleared _, Queue.contents_cleared _, rfl,
    State.hostReads_rdComin_of_empty rfl, State.hostReads_rdIfstat_iff.2 s.ifstat_powerClear⟩

/-- Settles O43: the write keeps the pending flags, which IFSTAT shows, and polls with the new enables. -/
theorem maskingIsPerSource : Obligations.MaskingIsPerSource := by
  intro s d
  refine ⟨_, _, interfaceControlWrite s d, State.hostReads_rdIfstat_iff.2 rfl, ?_, rfl, rfl, rfl, State.ifstat_flags _⟩
  simp only [Bool.or_eq_true, Bool.and_eq_true, or_assoc]

end Sys2Proof.Machine
end

section
/-!
SUPPORT. The peer actions that write one flag, byte or field (43_peer_interface.md R173 to R179).
-/

namespace Sys2Proof.Machine

/-- Settles O38: the poll sees the flag that was just set. -/
theorem peerSetsPendingAndPolls : Obligations.PeerSetsPendingAndPolls := by
  intro s
  refine ⟨?_, ?_, ?_⟩
  · simp [exec, execPeerSetPendDec, State.poll, State.aggregate]
  · simp [exec, execPeerSetPendXfer, State.poll, State.aggregate]
  · simp [exec, execPeerSetPendCmd, State.poll, State.aggregate]

/-! What ports 4 to 7 give the host (R105 to R108). -/

theorem State.hostReads_rdHead0_iff {s : State} {b : Byte} :
    s.HostReads .rdHead0 b ↔ s.headByte s.hdr.minute s.shdr.file = b := State.hostReads_iff_of_exec rfl

theorem State.hostReads_rdHead1_iff {s : State} {b : Byte} :
    s.HostReads .rdHead1 b ↔ s.headByte s.hdr.second s.shdr.channel = b := State.hostReads_iff_of_exec rfl

theorem State.hostReads_rdHead2_iff {s : State} {b : Byte} :
    s.HostReads .rdHead2 b ↔ s.headByte s.hdr.block s.shdr.submode = b := State.hostReads_iff_of_exec rfl

theorem State.hostReads_rdHead3_iff {s : State} {b : Byte} :
    s.HostReads .rdHead3 b ↔ s.headByte s.hdr.mode s.shdr.coding = b := State.hostReads_iff_of_exec rfl

theorem State.headByte_of_header {s : State} (h : s.ctl.head = false) (hb sb : Byte) : s.headByte hb sb = hb := by
  simp [State.headByte, h]

theorem State.headByte_of_subheader {s : State} (h : s.ctl.head = true) (hb sb : Byte) : s.headByte hb sb = sb := by
  simp [State.headByte, h]

/-- Settles O39: each write is its own frame, and `ctl.head` selects the byte just written. -/
theorem peerWritesHeaders : Obligations.PeerWritesHeaders := by
  intro s b
  refine ⟨?_, ?_, ?_, ?_, ?_, ?_, ?_, ?_⟩
  · exact ⟨_, rfl, rfl, fun h => State.hostReads_rdHead0_iff.2 (State.headByte_of_header h _ _)⟩
  · exact ⟨_, rfl, rfl, fun h => State.hostReads_rdHead1_iff.2 (State.headByte_of_header h _ _)⟩
  · exact ⟨_, rfl, rfl, fun h => State.hostReads_rdHead2_iff.2 (State.headByte_of_header h _ _)⟩
  · exact ⟨_, rfl, rfl, fun h => State.hostReads_rdHead3_iff.2 (State.headByte_of_header h _ _)⟩
  · exact ⟨_, rfl, rfl, fun h => State.hostReads_rdHead0_iff.2 (State.headByte_of_subheader h _ _)⟩
  · exact ⟨_, rfl, rfl, fun h => State.hostReads_rdHead1_iff.2 (State.headByte_of_subheader h _ _)⟩
  · exact ⟨_, rfl, rfl, fun h => State.hostReads_rdHead2_iff.2 (State.headByte_of_subheader h _ _)⟩
  · exact ⟨_, rfl, rfl, fun h => State.hostReads_rdHead3_iff.2 (State.headByte_of_subheader h _ _)⟩

/-- Settles O40. -/
theorem peerWritesFlagsAndSelector : Obligations.PeerWritesFlagsAndSelector := fun _ _ _ _ _ _ => ⟨rfl, rfl, rfl⟩

/-- Settles O41: a set lane is the byte or nibble appended to the bits the field keeps. -/
theorem peerWritesTransferFields : Obligations.PeerWritesTransferFields := fun _ _ => ⟨rfl, rfl, rfl, rfl, rfl, rfl, rfl, rfl⟩

end Sys2Proof.Machine
end
